-- ==== Sys2Proof/Word.lean ====
section
/-! DEFINITION. The data units of the block: a byte, a 16-bit command, response or status word, and the
16-byte unit of the datapath (spec/00_scope.md R6, R13 and section 5; spec/20_memory.md R52). -/

namespace Sys2Proof

/-- One byte: a registry entry, `COUNT`, `IDX`, `OIDX`, `LEN`, a status, or a byte of a sample (R13). -/
abbrev Byte := BitVec 8

/-- A command word, a response word or the status word: 16 bits (R13). -/
abbrev Word := BitVec 16

/-- `Bytes16` of spec/00_scope.md section 5: 16 bytes, indexed 0 to 15. -/
abbrev Bytes16 := Vector Byte 16

/-- `0^16`: the value whose every byte is 0x00. -/
def zero16 : Bytes16 := Vector.replicate 16 0

end Sys2Proof
end

