-- ==== Sys2Proof/Machine/Operands.lean ====
section
/-! DEFINITION. The fields of a command word and how its operand is read (spec/30_encoding.md R70, R71),
and the byte operations of the datapath (spec/20_memory.md R52). -/

namespace Sys2Proof.Machine

/-- `OP = cmd_word[15:12]` (R70). -/
def opField (w : Word) : BitVec 4 := w.extractLsb' 12 4

/-- `RSV = cmd_word[11:8]` (R70). -/
def rsvField (w : Word) : BitVec 4 := w.extractLsb' 8 4

/-- `ARG = cmd_word[7:0]`, neither extended, scaled nor shifted (R71). -/
def argField (w : Word) : Byte := w.extractLsb' 0 8

/-- The word whose fields are these (R70). -/
def commandWord (op rsv : BitVec 4) (arg : Byte) : Word := op ++ rsv ++ arg

/-- `a xor b` on `Bytes16`, byte by byte (spec/00_scope.md section 5). -/
def xor16 (a b : Bytes16) : Bytes16 := Vector.ofFn fun i => a[i] ^^^ b[i]

/-- Byte `i` of a datapath register. No index of 16 or more is ever used: `OIDX < LEN <= 16` (R28). -/
def byteAt (v : Bytes16) (i : Nat) : Byte := if h : i < 16 then v[i] else 0

/-- A byte array on a 128-bit bus: byte `i` sits in bits `[8i+7:8i]` (R53). -/
def busOf (v : Bytes16) : BitVec 128 := BitVec.ofFnLE fun k => (byteAt v (k.val / 8)).getLsbD (k.val % 8)

/-- The byte array on a 128-bit bus (R53). -/
def bytesOfBus (b : BitVec 128) : Bytes16 := Vector.ofFn fun i => b.extractLsb' (8 * i.val) 8

end Sys2Proof.Machine
end

