-- ==== Sys2Proof/Syntax.lean ====
section
/-! DEFINITION. The commands: one constructor for each row of spec/opcode_table.json
(spec/30_encoding.md R77). -/

namespace Sys2Proof

/-- The four commands of the block (R2). An operand is the unsigned 8-bit `ARG` (R71). -/
inductive Instr where
  /-- `INIT`, `entropy_init` (spec/41_conditioner.md R121). -/
  | init
  /-- `ADD p`, `entropy_source_add`: `p` is a source port id (spec/40_registry.md R100). -/
  | add (p : Byte)
  /-- `RESET`, `entropy_reset` (spec/40_registry.md R104). -/
  | reset
  /-- `GET n`, `entropy_get`: `n` is the requested length (spec/41_conditioner.md R123). -/
  | get (n : Byte)
  deriving DecidableEq, Repr

end Sys2Proof
end

