-- ==== Sys2Proof/Decode.lean ====
section
/-! DEFINITION. The decoder, total on 16-bit words (spec/30_encoding.md R78), and the encoder (R77, R80). -/

namespace Sys2Proof

/-- Why a word is illegal (R73). -/
inductive IllegalReason where
  /-- `OP` is not 0x1, 0x2, 0x3 or 0x4. -/
  | reservedOp
  /-- `RSV != 0`. -/
  | reservedField
  /-- INIT or RESET with `ARG != 0`. -/
  | operandNotZero
  deriving DecidableEq, Repr

/-- `Cmd` of R78: one of the four commands, or illegal. -/
inductive Decoded where
  | command (i : Instr)
  | illegal (why : IllegalReason)
  deriving DecidableEq, Repr

/-- `decode` of R78. -/
def decode (w : Word) : Decoded :=
  if Machine.rsvField w ≠ 0 then .illegal .reservedField
  else if Machine.opField w = 0x1 then
    if Machine.argField w = 0 then .command .init else .illegal .operandNotZero
  else if Machine.opField w = 0x2 then .command (.add (Machine.argField w))
  else if Machine.opField w = 0x3 then
    if Machine.argField w = 0 then .command .reset else .illegal .operandNotZero
  else if Machine.opField w = 0x4 then .command (.get (Machine.argField w))
  else .illegal .reservedOp

/-- The word of a command (R77, R80). -/
def encode : Instr → Word
  | .init  => Machine.commandWord 0x1 0x0 0x00
  | .add p => Machine.commandWord 0x2 0x0 p
  | .reset => Machine.commandWord 0x3 0x0 0x00
  | .get n => Machine.commandWord 0x4 0x0 n

/-- One row of the opcode map of R77 (spec/opcode_table.json). -/
structure OpcodeRow where
  mnemonic : String
  pattern  : Word
  mask     : Word
  deriving DecidableEq, Repr

/-- The opcode map of R77: `match` and `mask` of each command. -/
def opcodeTable : List OpcodeRow :=
  [⟨"INIT", 0x1000, 0xFFFF⟩, ⟨"ADD", 0x2000, 0xFF00⟩, ⟨"RESET", 0x3000, 0xFFFF⟩, ⟨"GET", 0x4000, 0xFF00⟩]

/-- Whether a word is one of a row's words. -/
def OpcodeRow.matches (r : OpcodeRow) (w : Word) : Bool := w &&& r.mask == r.pattern

/-- The row a command belongs to. -/
def Instr.mnemonic : Instr → String
  | .init  => "INIT"
  | .add _ => "ADD"
  | .reset => "RESET"
  | .get _ => "GET"

/-- The command word that the lowest `nbits` bits of `w` give. A command is one 16-bit word, presented whole
on the command port (R54, R70), so no byte order enters. -/
def tableWord (nbits w : Nat) : Word := BitVec.ofNat 16 (w % 2 ^ nbits)

/-- The instruction the decoder reads from an instruction whose bits are `w`, numbered as the opcode table
numbers them. -/
def decodeTableWord (nbits w : Nat) : Option Instr :=
  match decode (tableWord nbits w) with
  | .command i => some i
  | .illegal _ => none

end Sys2Proof
end

