-- ==== Sys2Proof/Config.lean ====
section
/-! DEFINITION. What is fixed for one machine (spec/00_scope.md R5 to R12: the build parameters and the
wiring of the source ports), what the outside world may do at one clock edge, and the free values: opaque
constants with no body, one for each value the spec leaves open (spec/93_implementation_defined.md). -/

namespace Sys2Proof

/-- R10 `CHECK_ORDER`: which of the two GET checks is reported when both fail. -/
inductive CheckOrder where
  | lenFirst
  | nosrcFirst
  deriving DecidableEq, Repr, Inhabited

/-- R11 `SRC_FAIL_POLICY`: what a GET does with a source status other than 16. -/
inductive SrcFailPolicy where
  | abort
  | ignore
  deriving DecidableEq, Repr, Inhabited

/-- What is wired to a source port (spec/42_noise_sources.md).
`hwRng` is the generic agent of R171: any answer, at any edge, or none ever.
`adcNoise` is the ADC-noise provider (R170), `timerJitter` the timer-jitter provider (R165 to R169).
`stub` is a test provider (R172): it answers each request at once with these bytes and status 16. -/
inductive Provider where
  | hwRng
  | adcNoise
  | timerJitter
  | stub (bytes : Bytes16)
  deriving DecidableEq, Repr, Inhabited

/-- R12 `CIPHER`: the reference AES-128 (R186), or one of the keyed permutations of which nothing is known. -/
inductive CipherSel where
  | aes128
  | other (n : Nat)
  deriving DecidableEq, Repr, Inhabited

/-- The build parameters of one block (R5, R7 to R12). `NUM_SOURCE_PORTS` (R8) is the length of `wiring`:
entry `p` of `wiring` is the provider behind port `p`. -/
structure Config where
  maxNumSources   : Nat
  maxBytesRequest : Nat
  wiring          : List Provider
  autoSources     : List Byte
  checkOrder      : CheckOrder
  srcFailPolicy   : SrcFailPolicy
  cipher          : CipherSel
  deriving DecidableEq, Repr, Inhabited

/-- R8 `NUM_SOURCE_PORTS`. -/
def Config.numSourcePorts (c : Config) : Nat := c.wiring.length

/-- The reference configuration: the default of every parameter (R5, R7 to R12). -/
def Config.reference : Config where
  maxNumSources   := 3
  maxBytesRequest := 16
  wiring          := [.hwRng, .adcNoise, .timerJitter]
  autoSources     := [0, 1]
  checkOrder      := .lenFirst
  srcFailPolicy   := .abort
  cipher          := .aes128

/-- The answer of a source port: an 8-bit status, read as `s8`, and 16 bytes (R160). -/
structure SrcAnswer where
  status : Byte
  data   : Bytes16
  deriving DecidableEq, Repr, Inhabited

/-- The answer of the cipher port: `cip_rsp_ok` and `cip_rsp_data` (R37, R180). -/
structure CipherAnswer where
  ok   : Bool
  data : Bytes16
  deriving DecidableEq, Repr, Inhabited

/-- What the provider behind one port draws at one clock edge (R164). `answers`: whether it answers.
`status`, `data`: the status and the bytes that the spec leaves open. `adcConfigured`, `conversions`: whether
an ADC could be configured and what its conversions read (R170). -/
structure PortDraw where
  answers       : Bool
  status        : Byte
  data          : Bytes16
  adcConfigured : Bool
  conversions   : List Nat
  deriving DecidableEq, Repr, Inhabited

/-- What the two clock domains of the timer-jitter provider do between two edges of `clk` (R165). Each entry of
`wakes` is one wake of its periodic alarm: how often the free-running counter ticked before it. `ticks`: how
often it ticks after the last of them. `endsAtReset`: whether an abandoned measurement ends with a hardware
reset at this edge (I23). -/
structure JitterDraw where
  wakes       : List Nat
  ticks       : Nat
  endsAtReset : Bool
  deriving DecidableEq, Repr, Inhabited

/-- The cipher unit's own state (R38): the key it holds after a LOADKEY and the block it last encrypted.
`none`: not known to the model (I26). -/
structure CipherUnit where
  key       : Option Bytes16
  lastBlock : Option Bytes16
  deriving DecidableEq, Repr, Inhabited

/-- What the cipher unit draws at one edge: whether it answers, whether it succeeds (R182, D45), the data it
drives where the spec does not fix them, and the state that another user of a shared unit leaves it in while
the block does not use it (D21, I26). -/
structure CipherDraw where
  answers : Bool
  ok      : Bool
  data    : Bytes16
  other   : Option CipherUnit
  deriving DecidableEq, Repr, Inhabited

/-- All that the outside world does at one rising edge of `clk` (spec/92_eei_decisions.md, "Free inputs").
`cmd` is `cmd_word` where `cmd_valid = 1`. `outBuffer` is the base of the output buffer, where the host
chooses a new one (R51). -/
structure Edge where
  rst       : Bool
  cmd       : Option Word
  outBuffer : Option Nat
  rspReady  : Bool
  ports     : List PortDraw
  jitter    : JitterDraw
  cipher    : CipherDraw
  deriving DecidableEq, Repr, Inhabited

/-- A port at which nothing happens. -/
def PortDraw.quiet : PortDraw where
  answers       := false
  status        := 0
  data          := zero16
  adcConfigured := false
  conversions   := []

/-- An edge at which nobody outside the block does anything. -/
def Edge.quiet : Edge where
  rst       := false
  cmd       := none
  outBuffer := none
  rspReady  := false
  ports     := []
  jitter    := { wakes := [], ticks := 0, endsAtReset := false }
  cipher    := { answers := false, ok := false, data := zero16, other := none }

/-- FREE VALUE (I8 to I18). What the outside world does at edge number `n`, where `State.script` does not
say: nothing constrains it. -/
opaque Config.freeEdge : Nat → Edge

/-- FREE VALUE (I7, R12). For each number, a keyed permutation of the blocks of which nothing is known but
that it is one. -/
opaque Config.otherCipher : Nat → Bytes16 → Equiv.Perm Bytes16

/-- FREE VALUE (I12, N22). Whether the first nibble of a byte of the timer-jitter provider is its high one. -/
opaque Config.jitterHighFirst : Bool

/-- FREE VALUE (I14, N24). Which of the 8 conversions of a byte gives bit `b` of it in the ADC provider. -/
opaque Config.adcBitOrder : Equiv.Perm (Fin 8)

end Sys2Proof
end

