-- ==== Sys2Proof/Machine/Cipher.lean ====
section
/-! DEFINITION. The keyed permutation `E_K` of the cipher port (R12, R181) and the reference AES-128
(spec/43_block_cipher.md R186 to R188, which the spec marks as general knowledge). Byte `i` of a block is
state element row `i mod 4`, column `i / 4` (R187). -/

namespace Sys2Proof.Machine

/-- The 16 bytes of a number, most significant first. -/
def bytesOfNat (n : Nat) : List Byte := (List.range 16).map fun i => BitVec.ofNat 8 (n >>> (8 * (15 - i)))

/-- The rows of `SBOX` by the high nibble of `x` (R188). -/
def aesSboxRows : List (List Byte) :=
  [bytesOfNat 0x637c777bf26b6fc53001672bfed7ab76, bytesOfNat 0xca82c97dfa5947f0add4a2af9ca472c0,
   bytesOfNat 0xb7fd9326363ff7cc34a5e5f171d83115, bytesOfNat 0x04c723c31896059a071280e2eb27b275] ++
  [bytesOfNat 0x09832c1a1b6e5aa0523bd6b329e32f84, bytesOfNat 0x53d100ed20fcb15b6acbbe394a4c58cf,
   bytesOfNat 0xd0efaafb434d338545f9027f503c9fa8, bytesOfNat 0x51a3408f929d38f5bcb6da2110fff3d2] ++
  [bytesOfNat 0xcd0c13ec5f974417c4a77e3d645d1973, bytesOfNat 0x60814fdc222a908846eeb814de5e0bdb,
   bytesOfNat 0xe0323a0a4906245cc2d3ac629195e479, bytesOfNat 0xe7c8376d8dd54ea96c56f4ea657aae08] ++
  [bytesOfNat 0xba78252e1ca6b4c6e8dd741f4bbd8b8a, bytesOfNat 0x703eb5664803f60e613557b986c11d9e,
   bytesOfNat 0xe1f8981169d98e949b1e87e9ce5528df, bytesOfNat 0x8ca1890dbfe6426841992d0fb054bb16]

/-- `SBOX[x]` (R188): the row is the high nibble, the column the low one. -/
def aesSbox (x : Byte) : Byte := (aesSboxRows.getD (x.toNat / 16) []).getD (x.toNat % 16) 0

/-- `2*a` in GF(2^8) modulo 0x11B (R186). -/
def aesDouble (a : Byte) : Byte := (a <<< 1) ^^^ (if a.msb then 0x1B else 0x00)

/-- `3*a` (R186). -/
def aesTriple (a : Byte) : Byte := aesDouble a ^^^ a

/-- SubBytes (R186). -/
def aesSubBytes (s : Bytes16) : Bytes16 := Vector.ofFn fun i => aesSbox s[i]

/-- ShiftRows (R186): element `r, c` comes from `r, (c + r) mod 4`. -/
def aesShiftRows (s : Bytes16) : Bytes16 :=
  Vector.ofFn fun i => byteAt s (i.val % 4 + 4 * ((i.val / 4 + i.val % 4) % 4))

/-- MixColumns (R186): in its column, row `r` is `2*a_r ^ 3*a_(r+1) ^ a_(r+2) ^ a_(r+3)`. -/
def aesMixColumns (s : Bytes16) : Bytes16 :=
  Vector.ofFn fun i =>
    let a (k : Nat) : Byte := byteAt s ((i.val % 4 + k) % 4 + 4 * (i.val / 4))
    aesDouble (a 0) ^^^ aesTriple (a 1) ^^^ a 2 ^^^ a 3

/-- `Rcon[j]`, `j` from 1 to 10 (R186). -/
def aesRcon (j : Nat) : Byte :=
  [0x01#8, 0x02#8, 0x04#8, 0x08#8, 0x10#8, 0x20#8, 0x40#8, 0x80#8, 0x1b#8, 0x36#8].getD (j - 1) 0

/-- The words `w[4j .. 4j+3]` of KeyExpansion from the four before them (R186), as 16 bytes, byte `r` of word
`c` at index `r + 4c`. -/
def aesNextRoundKey (j : Nat) (k : Bytes16) : Bytes16 :=
  let t (r : Nat) : Byte := aesSbox (byteAt k (12 + (r + 1) % 4)) ^^^ (if r = 0 then aesRcon j else 0)
  let w0 (r : Nat) : Byte := byteAt k r ^^^ t r
  let w1 (r : Nat) : Byte := byteAt k (4 + r) ^^^ w0 r
  let w2 (r : Nat) : Byte := byteAt k (8 + r) ^^^ w1 r
  let w3 (r : Nat) : Byte := byteAt k (12 + r) ^^^ w2 r
  Vector.ofFn fun i =>
    match i.val / 4 with
    | 0 => w0 (i.val % 4)
    | 1 => w1 (i.val % 4)
    | 2 => w2 (i.val % 4)
    | _ => w3 (i.val % 4)

/-- The round key of round `j`: words `w[4j .. 4j+3]` (R186, R189). -/
def aesRoundKey (k : Bytes16) : Nat → Bytes16
  | 0 => k
  | j + 1 => aesNextRoundKey (j + 1) (aesRoundKey k j)

/-- One of the rounds 1 to 9 (R186). -/
def aesRound (k s : Bytes16) : Bytes16 := xor16 (aesMixColumns (aesShiftRows (aesSubBytes s))) k

/-- The state after the first `j` rounds. -/
def aesRounds (k b : Bytes16) : Nat → Bytes16
  | 0 => xor16 b k
  | j + 1 => aesRound (aesRoundKey k (j + 1)) (aesRounds k b j)

/-- `AES128_Encrypt(K, in)` (R186): nine rounds and the last one, which has no MixColumns. -/
def aesEncrypt (k b : Bytes16) : Bytes16 :=
  xor16 (aesShiftRows (aesSubBytes (aesRounds k b 9))) (aesRoundKey k 10)

/-- `E_K` of the configured `CIPHER` (R12). -/
def cipherPerm (c : CipherSel) (k b : Bytes16) : Bytes16 :=
  match c with
  | .aes128 => aesEncrypt k b
  | .other n => Config.otherCipher n k b

end Sys2Proof.Machine
end

