-- ==== Sys2Proof/Machine/State.lean ====
section
/-! DEFINITION. The state of the machine: the block's registers (spec/10_state.md R20 to R36), the host's
output buffer (spec/20_memory.md R50, R51), the agents behind the ports (R38), and the inputs still to come;
the reasons a step can stop; and the state after reset (R39). -/

namespace Sys2Proof.Machine

/-- `FSM`, the block's program counter: the nine named states (R25, R26). -/
inductive Fsm where
  | idle | initAdd | getKey | getSample | getXor | getEnc | getOut | wipe | respond
  deriving DecidableEq, Repr

/-- The host's memory as the block has written it: address and byte, addresses strictly rising. An unlisted
address holds the host's own byte, of which the model knows nothing: it reads as `none`, which no entry does. -/
abbrev Memory := List Host.Cell

/-- R165: the two states of the timer-jitter provider. -/
inductive JitterMode where
  | idle
  | sampling
  deriving DecidableEq, Repr

/-- R165, the nibble phase: which measurement of an output byte comes next. -/
inductive NibblePhase where
  | first
  | second
  deriving DecidableEq, Repr

/-- The timer-jitter provider's own state (R38, R165): a process-wide singleton with a single lock (R169).
`caller` is the port whose request holds the lock; it is `none` when the request was dropped by a reset of the
block while the measurement runs on (R233). `nibbles` are the measurements so far, oldest first. -/
structure TimerJitter where
  mode       : JitterMode
  remaining  : Nat
  phase      : NibblePhase
  alarmArmed : Bool
  counter    : Nat
  locked     : Bool
  caller     : Option Byte
  nibbles    : List (BitVec 4)
  deriving DecidableEq, Repr

/-- All the spec gives the machine. `cfg` is fixed for the machine: no step writes it. -/
structure State where
  /-- The build parameters (R5 to R12). -/
  cfg : Config
  /-- `SRC[0..MAX_NUM_SOURCES-1]` (R20). -/
  src : List Byte
  /-- `COUNT` (R21). -/
  count : Byte
  /-- `FSM` (R25). -/
  fsm : Fsm
  /-- `IDX` (R27). -/
  idx : Byte
  /-- `OIDX` (R28). -/
  oidx : Byte
  /-- `LEN` (R28). -/
  len : Byte
  /-- `ACC` (R30). -/
  acc : Bytes16
  /-- `RAW` (R31). -/
  raw : Bytes16
  /-- `RSP` (R34). -/
  rsp : Word
  /-- `RSPV` (R34). -/
  rspv : Bool
  /-- The bytes the block has written to the host's memory (R51, R55). -/
  hostMem : Memory
  /-- The addresses the host must treat as any value, after a reset in `GET_OUT` (R232, I22). -/
  anyBytes : List Nat
  /-- The base of the host's output buffer (R51). -/
  outBase : Nat
  /-- The timer-jitter provider (R165). -/
  jitter : TimerJitter
  /-- The cipher unit (R38, R180). -/
  cipher : CipherUnit
  /-- What the outside world does at the coming edges, the next one first. Where the list ends, the outside
  world is free (`Config.freeEdge`). -/
  script : List Edge
  /-- The number of the next edge, which picks the free value. -/
  edgeNo : Nat
  deriving DecidableEq, Repr

/-- The block never faults: "All errors are propagated via return codes" (R200), and
spec/93_implementation_defined.md uses the treatment `fault` nowhere. So no reason exists, and no meaning can
raise one. -/
inductive Fault where
  deriving DecidableEq, Repr

/-- Why the model gives an instruction no meaning. -/
inductive Refusal where
  /-- Raised by an arm of `exec` whose instruction has no meaning yet: safe. No arm raises it. -/
  | notModelled (mnemonic : String)
  deriving DecidableEq, Repr

/-- The timer-jitter provider before any request: Idle, the alarm disarmed, the lock free (R165). -/
def TimerJitter.atRest : TimerJitter where
  mode       := .idle
  remaining  := 0
  phase      := .first
  alarmArmed := false
  counter    := 0
  locked     := false
  caller     := none
  nibbles    := []

/-- The machine after hardware reset (R39), in the reference configuration, with nothing yet written to the
host's memory and every agent at rest. -/
def State.reset : State where
  cfg      := Config.reference
  src      := List.replicate Config.reference.maxNumSources 0
  count    := 0
  fsm      := .idle
  idx      := 0
  oidx     := 0
  len      := 0
  acc      := zero16
  raw      := zero16
  rsp      := 0
  rspv     := false
  hostMem  := []
  anyBytes := []
  outBase  := 0
  jitter   := TimerJitter.atRest
  cipher   := { key := none, lastBlock := none }
  script   := []
  edgeNo   := 0

end Sys2Proof.Machine
end

