-- ==== Sys2Proof/Machine/Flags.lean ====
section
/-! DEFINITION. The computed fields: the result codes, causes and the response word (spec/30_encoding.md R74
to R76), the error kinds (spec/60_exceptions.md R201), the `FSM` code and the status word (spec/10_state.md
R25, R35), and the test of a source's status (spec/41_conditioner.md R128). The block has no condition codes
(R36). -/

namespace Sys2Proof.Machine

/-- `s8(v)` of spec/00_scope.md section 5: the two's-complement reading of an 8-bit field. -/
def s8 (v : Byte) : Int := v.toInt

/-- `sample_ok` of R128: the status is exactly `BLOCK_BYTES`. -/
def sampleOk (status : Byte) : Bool := s8 status == 16

/-- The CODE values of R75. -/
def codeOk : Byte := 0x00
/-- NO_SRC (R75). -/
def codeNoSrc : Byte := 0xFF
/-- MAX_SRC (R75). -/
def codeMaxSrc : Byte := 0xFE
/-- ERR (R75). -/
def codeErr : Byte := 0xFD

/-- CAUSE 0, NONE (R76). -/
def causeNone : BitVec 3 := 0

/-- The error kinds of R201, named by their CAUSE (R76). -/
inductive ErrorKind where
  | reqTooLarge
  | noSource
  | registryFull
  | cipherInitFail
  | cipherEncFail
  | sourceFail
  | illegalCmd
  deriving DecidableEq, Repr

/-- The CODE each kind goes with (R76, R201). -/
def errorCode : ErrorKind → Byte
  | .reqTooLarge    => codeErr
  | .noSource       => codeNoSrc
  | .registryFull   => codeMaxSrc
  | .cipherInitFail => codeErr
  | .cipherEncFail  => codeErr
  | .sourceFail     => codeErr
  | .illegalCmd     => codeErr

/-- The CAUSE of each kind (R76). -/
def errorCause : ErrorKind → BitVec 3
  | .reqTooLarge    => 1
  | .noSource       => 2
  | .registryFull   => 3
  | .cipherInitFail => 4
  | .cipherEncFail  => 5
  | .sourceFail     => 6
  | .illegalCmd     => 7

/-- The response word of R74: zero in bits 15:11, CAUSE in 10:8, CODE in 7:0. -/
def responseWord (code : Byte) (cause : BitVec 3) : Word := (0 : BitVec 5) ++ cause ++ code

/-- The response word of an error (R201). -/
def errorWord (k : ErrorKind) : Word := responseWord (errorCode k) (errorCause k)

/-- CODE of a response word (R74). -/
def codeOf (w : Word) : Byte := w.extractLsb' 0 8

/-- CAUSE of a response word (R74). -/
def causeOf (w : Word) : BitVec 3 := w.extractLsb' 8 3

/-- The 4-bit code of an `FSM` state (R25). -/
def fsmCode : Fsm → BitVec 4
  | .idle      => 0x0
  | .initAdd   => 0x1
  | .getKey    => 0x2
  | .getSample => 0x3
  | .getXor    => 0x4
  | .getEnc    => 0x5
  | .getOut    => 0x6
  | .wipe      => 0x7
  | .respond   => 0x8

/-- BUSY (R35): 1 when `FSM != IDLE`. -/
def State.busy (s : State) : Bool := s.fsm != .idle

/-- `status[15:0]` (R35): COUNT in 15:8, zero in 7:5, STATE in 4:1, BUSY in 0. -/
def State.statusWord (s : State) : Word :=
  s.count ++ (0 : BitVec 3) ++ fsmCode s.fsm ++ BitVec.ofBool s.busy

end Sys2Proof.Machine
end

