-- ==== Sys2Proof/Machine/Ops.lean ====
section
/-! DEFINITION. The operations every command and transition is built from: the host's output buffer, the
registry, the response, the failure path and the return from it, the secure wipe, and hardware reset. -/

namespace Sys2Proof.Machine

/-! ### The host's memory (spec/20_memory.md R50, R51, R55) -/

/-- One byte of the host's memory: `none` where the block has written nothing. The block itself never reads
it (R51). -/
def Memory.read : Memory → Nat → Option Byte
  | [], _ => none
  | (k, v) :: m, a => if k = a then some v else Memory.read m a

/-- `MemWrite(a, 1, v)`. -/
def Memory.write : Memory → Nat → Byte → Memory
  | [], a, v => [(a, v)]
  | (k, w) :: m, a, v =>
    if a < k then (a, v) :: (k, w) :: m
    else if a = k then (a, v) :: m
    else (k, w) :: Memory.write m a v

/-- The canonical form: addresses strictly rising. No entry reads as an unlisted address does, `none`. -/
abbrev Memory.wf (m : Memory) : Prop := m.Pairwise fun c d => c.1 < d.1

/-- What the host may take the byte at an address to be: the byte the block wrote there, unless it must treat
it as any value (R232). -/
def State.hostByte (s : State) (a : Nat) : Option Byte :=
  if a ∈ s.anyBytes then none else s.hostMem.read a

/-- The addresses of the host's output buffer: `MAX_BYTES_REQUEST` bytes from its base (R50). -/
def State.bufferAddrs (s : State) : List Nat :=
  (List.range s.cfg.maxBytesRequest).map (s.outBase + ·)

/-- Where byte `j` of the output goes: `out + j` (R55). -/
def State.outAddr (s : State) (j : Byte) : Nat := s.outBase + j.toNat

/-- The host takes one output byte (R55, R63): from then on the byte there is the block's. -/
def State.writeOut (s : State) (j b : Byte) : State :=
  { s with hostMem := s.hostMem.write (s.outAddr j) b
           anyBytes := s.anyBytes.filter (· ≠ s.outAddr j) }

/-! ### The key ROM and the registry -/

/-- `KEY[i] = i` (R29): a ROM, which no command and no reset changes. -/
def keyRom : Bytes16 := Vector.ofFn fun i => BitVec.ofNat 8 i.val

/-- The key ROM as the block reads it (R50). -/
def State.key (_ : State) : Bytes16 := keyRom

/-- `SRC[i]` (R20). -/
def State.srcAt (s : State) (i : Nat) : Byte := s.src.getD i 0

/-- The registered sources `SRC[0..COUNT-1]`, in registration order (R21). -/
def State.registered (s : State) : List Byte := s.src.take s.count.toNat

/-- Whether `add_entry` has room (R100). -/
def State.hasRoom (s : State) : Bool := decide (s.count.toNat < s.cfg.maxNumSources)

/-- The registry after `add_entry(p)` (R100); without room it is unchanged. -/
def State.addEntry (s : State) (p : Byte) : State :=
  if s.hasRoom then { s with src := s.src.set s.count.toNat p, count := s.count + 1 } else s

/-- The empty registry: every entry and `COUNT` zero (R104). -/
def State.clearRegistry (s : State) : State :=
  { s with src := List.replicate s.cfg.maxNumSources 0, count := 0 }

/-! ### The response, the failure path and the return -/

/-- `respond(code, cause)`: the response is valid at once; used where the datapath was never written
(spec/00_scope.md section 5, R34). -/
def State.respond (s : State) (code : Byte) (cause : BitVec 3) : State :=
  { s with rsp := responseWord code cause, rspv := true, fsm := .respond }

/-- `finish(code, cause)`: the response is recorded, `RSPV` is left at 0 and `WIPE` comes next
(spec/00_scope.md section 5, R34). -/
def State.finish (s : State) (code : Byte) (cause : BitVec 3) : State :=
  { s with rsp := responseWord code cause, fsm := .wipe }

/-- A failure before the datapath is touched goes straight to `RESPOND` (R210, R136). -/
def State.respondError (s : State) (k : ErrorKind) : State := s.respond (errorCode k) (errorCause k)

/-- A failure after the checks of a GET goes through `WIPE` (R210). -/
def State.finishError (s : State) (k : ErrorKind) : State := s.finish (errorCode k) (errorCause k)

/-- `WIPE` (R135): the datapath is overwritten with zeros and the response becomes valid. -/
def State.wipe (s : State) : State :=
  { s with acc := zero16, raw := zero16, idx := 0, oidx := 0, len := 0, rspv := true, fsm := .respond }

/-- The return to `IDLE` when the host takes the response (R137, R211). `RSP` keeps its value. -/
def State.handOver (s : State) : State := { s with rspv := false, fsm := .idle }

/-! ### Hardware reset (spec/70_reset_and_hazards.md R230, R232, R233) -/

/-- Every register of the block takes its value of R39. The host's memory and the agents are not reached; in
the middle of `GET_OUT` the host must from now on treat its whole buffer as any value (R232, I22).
DESIGN CHOICE (log entry 7): a reset in `WIPE` or `RESPOND`, when all the output bytes are written but the host
has not taken the response, adds nothing to `anyBytes`; R232 names `GET_OUT` alone, and D26 could be read as
naming these states too. -/
def State.hwReset (s : State) : State :=
  { s with
    src := List.replicate s.cfg.maxNumSources 0, count := 0, fsm := .idle, idx := 0, oidx := 0, len := 0,
    acc := zero16, raw := zero16, rsp := 0, rspv := false,
    anyBytes := if s.fsm = .getOut then s.bufferAddrs ++ s.anyBytes else s.anyBytes }

/-- The machine after hardware reset in the configuration `c` (R39). -/
def State.powerOn (c : Config) : State :=
  { State.reset with cfg := c, src := List.replicate c.maxNumSources 0 }

end Sys2Proof.Machine
end

