-- ==== Sys2Proof/Machine/Ports.lean ====
section
/-! DEFINITION. The block's ports (spec/10_state.md R37): its inputs at one clock edge, the request signals
(spec/41_conditioner.md R125) and its outputs as functions of the state. -/

namespace Sys2Proof.Machine

/-- The block's input ports at one rising edge (R37). `cmd` is `cmd_word` where `cmd_valid = 1`; `src p` is the
answer of port `p` where `src_rsp_valid[p] = 1`; `cip` is the cipher's where `cip_rsp_valid = 1`. -/
structure Inputs where
  rst      : Bool
  cmd      : Option Word
  rspReady : Bool
  src      : Byte → Option SrcAnswer
  cip      : Option CipherAnswer

/-- Whether a provider is wired to port `p` (R163). -/
def State.connected (s : State) (p : Byte) : Bool := decide (p.toNat < s.cfg.numSourcePorts)

/-- The port of the current round, `SRC[IDX]` (R125). -/
def State.roundPort (s : State) : Byte := s.srcAt s.idx.toNat

/-- `src_req[p]` (R125): no line is raised for an unconnected id. -/
def State.srcReq (s : State) (p : Byte) : Bool :=
  decide (s.fsm = .getSample) && decide (p = s.roundPort) && s.connected p

/-- A request on the cipher port (R125, R180). -/
inductive CipherRequest where
  | loadKey (k : Bytes16)
  | encrypt (b : Bytes16)
  deriving DecidableEq, Repr

/-- `cip_req_valid`, `cip_req_op` and `cip_req_data` (R125). -/
def State.cipReq (s : State) : Option CipherRequest :=
  match s.fsm with
  | .getKey => some (.loadKey s.key)
  | .getEnc => some (.encrypt s.acc)
  | .idle | .initAdd | .getSample | .getXor | .getOut | .wipe | .respond => none

/-- The output ports in one cycle (R37). `cipReqOp` is 1 for ENCRYPT. -/
structure Outputs where
  cmdReady    : Bool
  rspValid    : Bool
  rspWord     : Word
  status      : Word
  outWe       : Bool
  outIdx      : Byte
  outData     : Byte
  srcReq      : List Bool
  srcLen      : Byte
  cipReqValid : Bool
  cipReqOp    : Bool
  cipReqData  : BitVec 128
  deriving DecidableEq, Repr

/-- The output ports in a cycle in which `rst` has the given value. `cmd_ready` is 0 while `rst = 1` (R39,
R230), and no output write is made then (R39; DEDUCED, log entry 13); `src_len` is always 16 (R160).
DESIGN CHOICE (log entry 16): `out_idx` and `out_data` drive `OIDX` and `ACC[OIDX]` in every cycle. The spec
gives their values only in a cycle with `out_we = 1` (R55, R132). -/
def State.outputs (s : State) (rst : Bool) : Outputs where
  cmdReady    := decide (s.fsm = .idle) && !rst
  rspValid    := s.rspv
  rspWord     := s.rsp
  status      := s.statusWord
  outWe       := decide (s.fsm = .getOut) && decide (s.oidx.toNat < s.len.toNat) && !rst
  outIdx      := s.oidx
  outData     := byteAt s.acc s.oidx.toNat
  srcReq      := (List.range s.cfg.numSourcePorts).map fun p => s.srcReq (BitVec.ofNat 8 p)
  srcLen      := 16
  cipReqValid := s.cipReq.isSome
  cipReqOp    := decide (s.fsm = .getEnc)
  cipReqData  := busOf (if s.fsm = .getEnc then s.acc else s.key)

end Sys2Proof.Machine
end

