-- ==== Sys2Proof/Machine/Agents.lean ====
section
/-! DEFINITION. The agents behind the ports: the noise-source providers (spec/42_noise_sources.md), the cipher
unit (spec/43_block_cipher.md section 1), and how one edge of the outside world becomes the block's inputs. -/

namespace Sys2Proof.Machine

/-! ### Which bytes of a sample are defined (R162) -/

/-- How many bytes of an answer are the provider's sample: `k` for a status `k` from 0 to 16, else none. -/
def definedCount (status : Byte) : Nat :=
  if 0 ≤ s8 status ∧ s8 status ≤ 16 then status.toNat else 0

/-- The 16 bytes on the port: the sample where the status says it is defined, and elsewhere any value. -/
def portData (status : Byte) (sample free : Bytes16) : Bytes16 :=
  Vector.ofFn fun i => if i.val < definedCount status then sample[i] else free[i]

/-- What the provider behind port `p` draws at an edge. -/
def drawOf (e : Edge) (p : Byte) : PortDraw := e.ports.getD p.toNat PortDraw.quiet

/-- The provider wired to a connected port `p`. -/
def providerAt (c : Config) (p : Byte) : Provider := c.wiring.getD p.toNat .hwRng

/-! ### The ADC-noise provider (R170) -/

/-- One output byte from 8 conversions: the least-significant bit of each, in the provider's bit order. -/
def adcByte (conversions : List Nat) (j : Nat) : Byte :=
  (List.finRange 8).foldl
    (fun acc b =>
      if conversions.getD (8 * j + (Config.adcBitOrder b).val) 0 % 2 = 1 then acc ||| (1#8 <<< b.val) else acc) 0

/-- The sample of 128 conversions. -/
def adcSample (conversions : List Nat) : Bytes16 := Vector.ofFn fun j => adcByte conversions j.val

/-- The answer of the ADC provider: a negative status where the ADC could not be configured. -/
def adcAnswer (d : PortDraw) : SrcAnswer :=
  if d.adcConfigured then ⟨d.status, portData d.status (adcSample d.conversions) d.data⟩
  else ⟨d.status ||| 0x80, d.data⟩

/-! ### The timer-jitter provider (R165 to R169) -/

/-- The port of a request to the timer-jitter provider, if the block raises one (R125). -/
def State.jitterReq (s : State) : Option Byte :=
  if s.srcReq s.roundPort && decide (providerAt s.cfg s.roundPort = .timerJitter) then some s.roundPort
  else none

/-- Idle → Sampling (R166): 32 measurements, the alarm armed, the counter started, the lock taken. -/
def jitterStart (p : Byte) : TimerJitter where
  mode       := .sampling
  remaining  := 2 * 16
  phase      := .first
  alarmArmed := true
  counter    := 0
  locked     := true
  caller     := some p
  nibbles    := []

/-- A caller whose request has dropped is gone for good (R233). -/
def jitterCaller (req : Option Byte) (j : TimerJitter) : TimerJitter :=
  { j with caller := if req = j.caller then j.caller else none }

/-- The other half of the output byte. -/
def NibblePhase.flip : NibblePhase → NibblePhase
  | .first => .second
  | .second => .first

/-- One measurement (R167): the counter's low nibble is read, the counter restarted, the count decremented. -/
def jitterMeasure (j : TimerJitter) : TimerJitter :=
  { j with
    nibbles   := j.nibbles ++ [BitVec.ofNat 4 j.counter]
    counter   := 0
    remaining := j.remaining - 1
    phase     := j.phase.flip }

/-- One periodic wake after that many ticks of the counter: a measurement, while any is to come (R168). -/
def jitterWake (j : TimerJitter) (ticks : Nat) : TimerJitter :=
  if j.remaining = 0 then j else jitterMeasure { j with counter := j.counter + ticks }

/-- Sampling → Idle (R168): the alarm is disarmed and the caller released. -/
def jitterRelease (j : TimerJitter) : TimerJitter :=
  { j with mode := .idle, alarmArmed := false, locked := false, caller := none }

/-- Sampling up to the next edge, before the release: the counter runs on its own clock domain (R165). -/
def jitterSampling (req : Option Byte) (d : JitterDraw) (j : TimerJitter) : TimerJitter :=
  { d.wakes.foldl jitterWake (jitterCaller req j) with
    counter := (d.wakes.foldl jitterWake (jitterCaller req j)).counter + d.ticks }

/-- A request takes an Idle provider to Sampling; at a Sampling one it waits for the lock (R166, R169). -/
def jitterTake (req : Option Byte) (j : TimerJitter) : TimerJitter :=
  match j.mode, req with
  | .idle, some p => jitterStart p
  | .idle, none => j
  | .sampling, _ => j

/-- The provider once its measurements up to the next edge are made, before the release. -/
def jitterRun (req : Option Byte) (d : JitterDraw) (j : TimerJitter) : TimerJitter :=
  match (jitterTake req j).mode with
  | .idle => jitterTake req j
  | .sampling => jitterSampling req d (jitterTake req j)

/-- Whether the last measurement is made by the next edge. -/
def TimerJitter.finished (j : TimerJitter) : Bool := decide (j.mode = .sampling) && decide (j.remaining = 0)

/-- The provider's state after one edge. -/
def jitterNext (req : Option Byte) (d : JitterDraw) (j : TimerJitter) : TimerJitter :=
  if (jitterRun req d j).finished then jitterRelease (jitterRun req d j) else jitterRun req d j

/-- The port whose caller is released at this edge, if any (R168). -/
def jitterAnswers (req : Option Byte) (d : JitterDraw) (j : TimerJitter) : Option Byte :=
  if (jitterRun req d j).finished then (jitterRun req d j).caller else none

/-- The provider after an edge of the machine. Hardware reset does not reach it, so it may still be Sampling;
what else has become of an abandoned measurement by then is open (R233, I23). -/
def State.jitterNext (s : State) (e : Edge) : TimerJitter :=
  if e.rst && e.jitter.endsAtReset then jitterRelease (Machine.jitterNext s.jitterReq e.jitter s.jitter)
  else Machine.jitterNext s.jitterReq e.jitter s.jitter

/-- Measurement `m` gives one nibble of byte `m / 2`; the spec leaves open which half comes first (R167). -/
def jitterByte (nibbles : List (BitVec 4)) (j : Nat) : Byte :=
  if Config.jitterHighFirst then nibbles.getD (2 * j) 0 ++ nibbles.getD (2 * j + 1) 0
  else nibbles.getD (2 * j + 1) 0 ++ nibbles.getD (2 * j) 0

/-- The sample of 32 measurements. -/
def jitterSample (nibbles : List (BitVec 4)) : Bytes16 := Vector.ofFn fun j => jitterByte nibbles j.val

/-! ### The answer on a source port -/

/-- `src_rsp_valid[p]`, `src_rsp_status[p]` and `src_rsp_data[p]` at an edge (R160, R164, R172). -/
def State.portAnswer (s : State) (e : Edge) (p : Byte) : Option SrcAnswer :=
  match providerAt s.cfg p with
  | .hwRng => if (drawOf e p).answers then some ⟨(drawOf e p).status, (drawOf e p).data⟩ else none
  | .adcNoise => if s.srcReq p && (drawOf e p).answers then some (adcAnswer (drawOf e p)) else none
  | .timerJitter =>
    if jitterAnswers s.jitterReq e.jitter s.jitter = some p then
      some ⟨(drawOf e p).status,
        portData (drawOf e p).status (jitterSample (jitterRun s.jitterReq e.jitter s.jitter).nibbles)
          (drawOf e p).data⟩
    else none
  | .stub bytes => if s.srcReq p then some ⟨16, bytes⟩ else none

/-! ### The cipher unit (R180 to R183) -/

/-- The data of an answer: `E_K(B)` for a successful ENCRYPT under the key the unit holds (R181), else any
value. -/
def State.cipherData (s : State) (d : CipherDraw) : Bytes16 :=
  match s.cipReq, s.cipher.key, d.ok with
  | some (.encrypt b), some k, true => cipherPerm s.cfg.cipher k b
  | _, _, _ => d.data

/-- `cip_rsp_valid`, `cip_rsp_ok` and `cip_rsp_data` at an edge. -/
def State.cipherAnswer (s : State) (d : CipherDraw) : Option CipherAnswer :=
  if d.answers then some ⟨d.ok, s.cipherData d⟩ else none

/-- Whether the block is between its LOADKEY request and its last ENCRYPT answer. -/
def State.usesCipher (s : State) : Bool :=
  match s.fsm with
  | .getKey | .getSample | .getXor | .getEnc => true
  | .idle | .initAdd | .getOut | .wipe | .respond => false

/-- The cipher unit after an edge (R38, R181): a LOADKEY gives it the key or leaves it with none, an ENCRYPT
the block it last encrypted. Another user may leave it in any state while the block does not use it (D21, I26). -/
def State.cipherNext (s : State) (d : CipherDraw) : CipherUnit :=
  match s.cipReq with
  | some (.loadKey k) =>
    if d.answers then { s.cipher with key := if d.ok then some k else none } else s.cipher
  | some (.encrypt b) =>
    if d.answers && d.ok then { s.cipher with lastBlock := some b } else s.cipher
  | none =>
    if s.usesCipher then s.cipher else d.other.getD s.cipher

/-! ### One edge of the outside world -/

/-- The block's inputs at an edge. -/
def State.inputsAt (s : State) (e : Edge) : Inputs where
  rst      := e.rst
  cmd      := e.cmd
  rspReady := e.rspReady
  src      := s.portAnswer e
  cip      := s.cipherAnswer e.cipher

/-- What changes outside the block at an edge, whatever the block does: the agents, the inputs still to come,
and, between commands, the host's choice of its buffer (R51). Hardware reset does not reach them (R233). -/
def State.worldNext (s : State) (e : Edge) : State :=
  { s with
    jitter  := s.jitterNext e
    cipher  := s.cipherNext e.cipher
    outBase := if s.fsm = .idle then e.outBuffer.getD s.outBase else s.outBase
    script  := s.script.tail
    edgeNo  := s.edgeNo + 1 }

end Sys2Proof.Machine
end

