-- ==== Sys2Proof/Machine/Conditioner.lean ====
section
/-! DEFINITION. The conditioner commands INIT and GET as the dispatch takes them, and every transition of the
FSM outside `IDLE` (spec/41_conditioner.md R121 to R138). A transition reads the state at its start and the
input ports, and writes the state at its end; a state with no enabled transition holds. -/

namespace Sys2Proof.Machine

/-! ### The commands -/

/-- INIT (R120, R121): start registering `AUTO_SOURCES`. -/
def execInit (s : State) : Host.Outcome State Fault Refusal :=
  .next { s with idx := 0, fsm := .initAdd }

/-- `too_large` of R123: an unsigned compare. -/
def State.tooLarge (s : State) (n : Byte) : Bool := decide (s.cfg.maxBytesRequest < n.toNat)

/-- `empty` of R123. -/
def State.isEmpty (s : State) : Bool := decide (s.count = 0)

/-- The first check of a GET that fails, in `CHECK_ORDER` (R123, R205). -/
def State.getCheck (s : State) (n : Byte) : Option ErrorKind :=
  match s.cfg.checkOrder with
  | .lenFirst => if s.tooLarge n then some .reqTooLarge else if s.isEmpty then some .noSource else none
  | .nosrcFirst => if s.isEmpty then some .noSource else if s.tooLarge n then some .reqTooLarge else none

/-- The datapath of a GET that has passed its checks (R123, step 1 of the source's algorithm). -/
def State.startGet (s : State) (n : Byte) : State :=
  { s with acc := zero16, raw := zero16, len := n, idx := 0, oidx := 0, fsm := .getKey }

/-- GET (R123): the checks, and the start of the conditioning. -/
def execGet (n : Byte) (s : State) : Host.Outcome State Fault Refusal :=
  match s.getCheck n with
  | some k => .next (s.respondError k)
  | none => .next (s.startGet n)

/-! ### The transitions -/

/-- `INIT_ADD` (R121): one entry of `AUTO_SOURCES`, a rejected one being non-fatal, or the result. -/
def stepInitAdd (s : State) : State :=
  if s.idx.toNat < s.cfg.autoSources.length then
    { s.addEntry (s.cfg.autoSources.getD s.idx.toNat 0) with idx := s.idx + 1 }
  else if s.count = 0 then { s with idx := 0 }.respondError .noSource
  else { s with idx := 0 }.respond s.count causeNone

/-- `GET_KEY` (R124): the cipher's answer to LOADKEY. -/
def stepGetKey (i : Inputs) (s : State) : State :=
  match i.cip with
  | none => s
  | some a => if a.ok then { s with fsm := .getSample } else s.finishError .cipherInitFail

/-- The answer `GET_SAMPLE` takes: the port's, or at once that of an unconnected port (R127, R163). -/
def State.sampleAnswer (i : Inputs) (s : State) : Option SrcAnswer :=
  if s.connected s.roundPort then i.src s.roundPort else some ⟨0xFF, zero16⟩

/-- Whether a GET is given up for this status (R127). -/
def State.abortsOn (s : State) (status : Byte) : Bool :=
  decide (s.cfg.srcFailPolicy = .abort) && !sampleOk status

/-- `GET_SAMPLE` (R126, R127): wait, or take the sample into `RAW`. -/
def stepGetSample (i : Inputs) (s : State) : State :=
  match s.sampleAnswer i with
  | none => s
  | some a =>
    if s.abortsOn a.status then { s with raw := a.data }.finishError .sourceFail
    else { s with raw := a.data, fsm := .getXor }

/-- `GET_XOR` (R129): fold the sample into the accumulator. -/
def stepGetXor (s : State) : State := { s with acc := xor16 s.acc s.raw, fsm := .getEnc }

/-- `GET_ENC` (R130): the cipher's answer to ENCRYPT, and the loop over the registered sources. -/
def stepGetEnc (i : Inputs) (s : State) : State :=
  match i.cip with
  | none => s
  | some a =>
    if a.ok then
      if s.idx.toNat + 1 < s.count.toNat then { s with acc := a.data, idx := s.idx + 1, fsm := .getSample }
      else { s with acc := a.data, idx := s.idx + 1, oidx := 0, fsm := .getOut }
    else s.finishError .cipherEncFail

/-- `GET_OUT` (R132): one output byte, or the result. -/
def stepGetOut (s : State) : State :=
  if s.oidx.toNat < s.len.toNat then
    { s.writeOut s.oidx (byteAt s.acc s.oidx.toNat) with oidx := s.oidx + 1 }
  else s.finish s.len causeNone

/-- `WIPE` (R135). -/
def stepWipe (s : State) : State := s.wipe

/-- `RESPOND` (R137): wait for the host, or hand the response over. -/
def stepRespond (i : Inputs) (s : State) : State := if i.rspReady then s.handOver else s

/-- The transition of every state but `IDLE`. In `IDLE` it does nothing: what happens there is the command's
(R120). -/
def stepBusy (i : Inputs) (s : State) : State :=
  match s.fsm with
  | .idle      => s
  | .initAdd   => stepInitAdd s
  | .getKey    => stepGetKey i s
  | .getSample => stepGetSample i s
  | .getXor    => stepGetXor s
  | .getEnc    => stepGetEnc i s
  | .getOut    => stepGetOut s
  | .wipe      => stepWipe s
  | .respond   => stepRespond i s

end Sys2Proof.Machine
end

