-- ==== Sys2Proof/Machine/Registry.lean ====
section
/-! DEFINITION. The registry commands ADD and RESET (spec/40_registry.md). Each is one transition out of
`IDLE`, after which `FSM = RESPOND`. -/

namespace Sys2Proof.Machine

/-- ADD (R100): append the port id, or answer MAX_SRC when the registry is full. -/
def execAdd (p : Byte) (s : State) : Host.Outcome State Fault Refusal :=
  if s.hasRoom then .next ((s.addEntry p).respond codeOk causeNone)
  else .next (s.respondError .registryFull)

/-- RESET (R104): empty the registry and answer OK. -/
def execReset (s : State) : Host.Outcome State Fault Refusal :=
  .next (s.clearRegistry.respond codeOk causeNone)

end Sys2Proof.Machine
end

