-- ==== Sys2Proof/Machine/Dispatch.lean ====
section
/-! DEFINITION. The dispatch of R120: one arm for each command. -/

namespace Sys2Proof.Machine

def exec (i : Instr) (s : State) : Host.Outcome State Fault Refusal :=
  match i with
  | .init => Sys2Proof.Machine.execInit s
  | .add p => Sys2Proof.Machine.execAdd p s
  | .reset => Sys2Proof.Machine.execReset s
  | .get n => Sys2Proof.Machine.execGet n s

end Sys2Proof.Machine
end

