-- ==== Sys2Proof/Machine/Accept.lean ====
section
/-! DEFINITION. One clock edge: what the outside world does at it, the acceptance of a command in `IDLE`
(spec/41_conditioner.md R120), and hardware reset before all else (spec/70_reset_and_hazards.md R230). -/

namespace Sys2Proof.Machine

/-- What the outside world does at the coming edge: the next entry of `script`, else a free value. -/
def State.nextEdge (s : State) : Edge :=
  match s.script with
  | e :: _ => e
  | [] => Config.freeEdge s.edgeNo

/-- `IDLE` (R120): nothing without a command; an illegal word is answered ERR, ILLEGAL_CMD and changes nothing
else (R73, R208); a command is dispatched. -/
def acceptCommand (cmd : Option Word) (s : State) : Host.Outcome State Fault Refusal :=
  match cmd with
  | none => .next s
  | some w =>
    match decode w with
    | .command i => exec i s
    | .illegal _ => .next (s.respondError .illegalCmd)

/-- One rising edge of `clk` at which the block sees the inputs `i`: the block's own transition (R230, R246). -/
def clockEdge (i : Inputs) (s : State) : Host.Outcome State Fault Refusal :=
  if i.rst then .next s.hwReset
  else if s.fsm = .idle then acceptCommand i.cmd s
  else .next (stepBusy i s)

/-- One edge of the whole machine: the agents answer the requests the block raises, the outside world moves on
and the block makes at most one transition (R246). -/
def machineEdge (e : Edge) (s : State) : Host.Outcome State Fault Refusal :=
  clockEdge (s.inputsAt e) (s.worldNext e)

end Sys2Proof.Machine
end

