-- ==== Sys2Proof/Machine/Step.lean ====
section
/-! DEFINITION. The step of the machine, and where its next command comes from. -/

namespace Sys2Proof.Machine

/-- One rising edge of `clk` (R246). -/
def step (s : State) : Host.Outcome State Fault Refusal := machineEdge s.nextEdge s

/-- An edge at which the host presents the command word `w` and nothing else happens. -/
def commandEdge (w : Word) : Edge := { Edge.quiet with cmd := some w }

/-- `s` with a command word on the command port, to be taken at the very next edge: the block is in `IDLE` and
the host presents the word. -/
def State.withFetchWord (s : State) (nbits w : Nat) : State :=
  { s with fsm := .idle, script := commandEdge (tableWord nbits w) :: s.script }

end Sys2Proof.Machine
end

