-- ==== Sys2Proof/WellFormed.lean ====
section
/-! DEFINITION. Which commands and which configurations are legal. -/

namespace Sys2Proof

/-- Every operand value is legal: ADD takes any port id from 0 to 255 (R101), and a GET whose length is too
large is a well-formed GET that fails (R73). The operand's width is its type. -/
def Instr.wellFormed : Instr → Bool
  | .init  => true
  | .add _ => true
  | .reset => true
  | .get _ => true

/-- R5: 1 to 127. -/
def Config.maxNumSourcesOk (c : Config) : Bool := decide (1 ≤ c.maxNumSources ∧ c.maxNumSources ≤ 127)

/-- R7: 1 to 16. -/
def Config.maxBytesRequestOk (c : Config) : Bool := decide (1 ≤ c.maxBytesRequest ∧ c.maxBytesRequest ≤ 16)

/-- R8: 1 to 256. -/
def Config.numSourcePortsOk (c : Config) : Bool := decide (1 ≤ c.numSourcePorts ∧ c.numSourcePorts ≤ 256)

/-- R9: at most 255 entries, any ids, repeats allowed. -/
def Config.autoSourcesOk (c : Config) : Bool := decide (c.autoSources.length ≤ 255)

/-- Every parameter is in its legal range. -/
def Config.wellFormed (c : Config) : Bool :=
  c.maxNumSourcesOk && c.maxBytesRequestOk && c.numSourcePortsOk && c.autoSourcesOk

end Sys2Proof
end

