-- ==== Sys2Proof/Safety.lean ====
section
/-! DEFINITION. What a safe run is: the invariant of the machine, the reference semantics of a GET (R140), and
the runs that the claims speak of. -/

namespace Sys2Proof.Machine

/-! ### The invariant -/

/-- The datapath holds nothing (R33, R143): `ACC`, `RAW`, `IDX`, `OIDX` and `LEN` are zero. -/
def State.DatapathClear (s : State) : Prop :=
  s.acc = zero16 ∧ s.raw = zero16 ∧ s.idx = 0 ∧ s.oidx = 0 ∧ s.len = 0

/-- Every response word pairs its CODE and CAUSE as R76 does: a non-negative success code with NONE, or the
word of one of the error kinds. -/
def ResponseLegal (w : Word) : Prop :=
  (∃ c : Byte, c.toNat ≤ 127 ∧ w = responseWord c causeNone) ∨ ∃ k : ErrorKind, w = errorWord k

/-- The timer-jitter provider is in one of its two states (R165): Idle with nothing armed, or Sampling with the
measurements made and those to come adding up to 32 (R166). -/
def TimerJitter.Consistent (j : TimerJitter) : Prop :=
  match j.mode with
  | .idle => j.alarmArmed = false ∧ j.locked = false ∧ j.caller = none
  | .sampling =>
    j.alarmArmed = true ∧ j.locked = true ∧ 1 ≤ j.remaining ∧ j.nibbles.length + j.remaining = 32 ∧
      (j.phase = .first ↔ j.nibbles.length % 2 = 0)

/-- What holds of the datapath in each state of the FSM (R27, R28, R33). -/
def State.PhaseInv (s : State) : Prop :=
  match s.fsm with
  | .idle | .respond => s.DatapathClear
  | .initAdd =>
    s.idx.toNat ≤ s.cfg.autoSources.length ∧ s.acc = zero16 ∧ s.raw = zero16 ∧ s.oidx = 0 ∧ s.len = 0
  | .getKey =>
    s.acc = zero16 ∧ s.raw = zero16 ∧ s.idx = 0 ∧ s.oidx = 0 ∧ 0 < s.count.toNat ∧
      s.len.toNat ≤ s.cfg.maxBytesRequest
  | .getSample | .getXor | .getEnc =>
    s.idx.toNat < s.count.toNat ∧ s.oidx = 0 ∧ s.len.toNat ≤ s.cfg.maxBytesRequest ∧
      s.cipher.key = some s.key
  | .getOut =>
    s.idx = s.count ∧ s.oidx.toNat ≤ s.len.toNat ∧ s.len.toNat ≤ s.cfg.maxBytesRequest
  | .wipe => True

/-- The invariant of the machine. -/
structure State.Inv (s : State) : Prop where
  /-- Every parameter is in its legal range (R5 to R9). -/
  config : s.cfg.wellFormed = true
  /-- The register file has `MAX_NUM_SOURCES` entries (R20). -/
  entries : s.src.length = s.cfg.maxNumSources
  /-- `0 <= count <= MAX_NUM_SOURCES` (R21). -/
  countBound : s.count.toNat ≤ s.cfg.maxNumSources
  /-- Every entry at an index of `COUNT` or more holds 0x00 (R23). -/
  unusedZero : ∀ i, s.count.toNat ≤ i → s.srcAt i = 0
  /-- `RSPV` is 1 exactly while the response waits for the host (R34, R137). -/
  responseValid : s.rspv = true ↔ s.fsm = .respond
  /-- The response register holds a legal response (R76), or its reset value. -/
  responseLegal : ResponseLegal s.rsp
  /-- The host's memory is in canonical form. -/
  hostMemWf : s.hostMem.wf
  /-- The datapath is as its state asks. -/
  phase : s.PhaseInv
  /-- The timer-jitter provider is consistent. -/
  jitterOk : s.jitter.Consistent

/-! ### Runs of the block under given inputs -/

/-- A run of the block over a list of inputs, one for each edge. -/
def clockRun : List Inputs → State → Host.Outcome State Fault Refusal
  | [], s => .next s
  | i :: is, s =>
    match clockEdge i s with
    | .next t => clockRun is t
    | .fault r => .fault r
    | .refused r => .refused r

/-- Commands run one after the other, each with its own effect, from acceptance to acceptance. -/
def execAll : List Instr → State → Host.Outcome State Fault Refusal
  | [], s => .next s
  | i :: is, s =>
    match exec i s with
    | .next t => execAll is t
    | .fault r => .fault r
    | .refused r => .refused r

/-- The transitions of a busy block over a list of inputs, hardware reset apart. -/
def busyRun : List Inputs → State → State
  | [], s => s
  | i :: is, s => busyRun is (stepBusy i s)

/-! ### The reference semantics of GET (R140) -/

/-- The answers that the agents give in one GET: to LOADKEY, to the sample of round `i`, and to the ENCRYPT of
round `i` for a block. They are free: a claim holds for every value of them. -/
structure Answers where
  keyOk   : Bool
  sample  : Nat → SrcAnswer
  encrypt : Nat → Bytes16 → CipherAnswer

/-- A request as a model logs it (R140). -/
inductive Request where
  | loadKey (k : Bytes16)
  | sample (p : Byte)
  | encrypt (b : Bytes16)
  deriving DecidableEq, Repr

/-- What a GET ends with: its accumulator, or the first error it meets (R205). -/
inductive GetResult where
  | output (acc : Bytes16)
  | failure (k : ErrorKind)
  deriving DecidableEq, Repr

/-- The answer of the port of a round; an unconnected port answers at once (R163). -/
def State.refSample (s : State) (a : Answers) (i : Nat) (p : Byte) : SrcAnswer :=
  if s.connected p then a.sample i else ⟨0xFF, zero16⟩

/-- The loop of `GET_ref` (R140) over the entries still to come, from round `i` with the accumulator `acc`. -/
def State.refRounds (s : State) (a : Answers) : List Byte → Nat → Bytes16 → GetResult
  | [], _, acc => .output acc
  | p :: ps, i, acc =>
    if s.abortsOn (s.refSample a i p).status then .failure .sourceFail
    else if (a.encrypt i (xor16 acc (s.refSample a i p).data)).ok then
      s.refRounds a ps (i + 1) (a.encrypt i (xor16 acc (s.refSample a i p).data)).data
    else .failure .cipherEncFail

/-- The requests of the same loop, in the order in which they go out (R140). -/
def State.refRequests (s : State) (a : Answers) : List Byte → Nat → Bytes16 → List Request
  | [], _, _ => []
  | p :: ps, i, acc =>
    (if s.connected p then [Request.sample p] else []) ++
    (if s.abortsOn (s.refSample a i p).status then []
     else .encrypt (xor16 acc (s.refSample a i p).data) ::
      (if (a.encrypt i (xor16 acc (s.refSample a i p).data)).ok then
        s.refRequests a ps (i + 1) (a.encrypt i (xor16 acc (s.refSample a i p).data)).data
       else []))

/-- `GET_ref` after the checks (R140). -/
def State.getRef (s : State) (a : Answers) : GetResult :=
  if a.keyOk then s.refRounds a s.registered 0 zero16 else .failure .cipherInitFail

/-- All the requests of a GET that has passed its checks (R140): one LOADKEY, then the rounds'. -/
def State.getRefRequests (s : State) (a : Answers) : List Request :=
  .loadKey s.key :: (if a.keyOk then s.refRequests a s.registered 0 zero16 else [])

/-- The first `n` bytes of the accumulator, written to the host in ascending order (R55). -/
def State.writeBytes (s : State) (acc : Bytes16) : Nat → State
  | 0 => s
  | n + 1 => (s.writeBytes acc n).writeOut (BitVec.ofNat 8 n) (byteAt acc n)

/-- How a GET of `n` bytes leaves the block when its response is valid (R140): the output written on success
only, and `s` otherwise unchanged but for the response. -/
def State.afterGet (s : State) (n : Byte) : GetResult → State
  | .output acc => (s.writeBytes acc n.toNat).respond n causeNone
  | .failure k => s.respondError k

/-- The request that the state raises (R125). -/
def State.request (s : State) : Option Request :=
  match s.fsm with
  | .getKey => some (.loadKey s.key)
  | .getEnc => some (.encrypt s.acc)
  | .getSample => if s.connected s.roundPort then some (.sample s.roundPort) else none
  | .idle | .initAdd | .getXor | .getOut | .wipe | .respond => none

/-- The inputs give no answer but those of `a`, and may withhold any answer at this edge; there is no hardware
reset. -/
def Answers.Allows (a : Answers) (s : State) (i : Inputs) : Prop :=
  i.rst = false ∧
  (s.fsm = .getSample → i.src s.roundPort = none ∨ i.src s.roundPort = some (a.sample s.idx.toNat)) ∧
  (s.fsm = .getKey → i.cip = none ∨ ∃ d, i.cip = some ⟨a.keyOk, d⟩) ∧
  (s.fsm = .getEnc → i.cip = none ∨ i.cip = some (a.encrypt s.idx.toNat s.acc))

/-- A run of one GET under the answers `a`, each after any wait, with the requests it made, oldest first; the
last one may still be waiting. A request is logged when it is answered. -/
inductive GetRun (a : Answers) : State → State → List Request → Prop where
  | start (s : State) : GetRun a s s []
  | edge {s t : State} {log : List Request} {i : Inputs} (run : GetRun a s t log) (busy : t.fsm ≠ .idle)
      (pending : t.fsm ≠ .respond) (allowed : a.Allows t i) :
      GetRun a s (stepBusy i t)
        (if (stepBusy i t).fsm = t.fsm then log else log ++ t.request.toList)

/-- The accumulator after the rounds over `ports`, when every source answers with the bytes `sample` gives for
its port and every encryption succeeds (R131). -/
def cascade (c : CipherSel) (sample : Byte → Bytes16) : List Byte → Bytes16 → Bytes16
  | [], acc => acc
  | p :: ps, acc => cascade c sample ps (cipherPerm c keyRom (xor16 acc (sample p)))

/-- The fixed bytes of a stub (R172). -/
def State.stubBytes (s : State) (p : Byte) : Bytes16 :=
  match providerAt s.cfg p with
  | .stub b => b
  | .hwRng | .adcNoise | .timerJitter => zero16

/-- Every registered port is connected and carries a stub (R172). -/
def State.AllStubs (s : State) : Prop :=
  ∀ p ∈ s.registered, s.connected p = true ∧ providerAt s.cfg p = .stub (s.stubBytes p)

/-- An edge with no hardware reset, at which the cipher answers with success. -/
def edgeServes (e : Edge) : Prop := e.rst = false ∧ e.cipher.answers = true ∧ e.cipher.ok = true

/-- Two states whose conditioner and registry agree. The response counts from the moment it is recorded. -/
def State.SameConditioner (s t : State) : Prop :=
  s.cfg = t.cfg ∧ s.src = t.src ∧ s.count = t.count ∧ s.fsm = t.fsm ∧ s.idx = t.idx ∧ s.oidx = t.oidx ∧
  s.len = t.len ∧ s.acc = t.acc ∧ s.raw = t.raw ∧ s.rspv = t.rspv ∧
  (s.fsm = .wipe ∨ s.fsm = .respond → s.rsp = t.rsp)

/-- The states of the registry and the datapath of a block, as hardware reset leaves them (R39). -/
def State.RegistersReset (s : State) : Prop :=
  (∀ i, s.srcAt i = 0) ∧ s.count = 0 ∧ s.fsm = .idle ∧ s.DatapathClear ∧ s.rsp = 0 ∧ s.rspv = false

end Sys2Proof.Machine
end

