-- ==== Sys2Proof/Certificates/Slice0/Obligations.lean ====
section
/-! DEFINITION. The statements for the provers. Each formalises rules of spec/ or follows from them; where one
rests on a choice of the model's own, its docstring names the log entry. -/

open Sys2Proof Sys2Proof.Machine

/-! ### Encoding (spec/30_encoding.md) -/

/-- R77, R78, R80: the word of every command decodes to it, with every operand. -/
def Obligations.DecodeEncodeRoundTrip : Prop :=
  ∀ i : Instr, i.wellFormed = true →
    decode (encode i) = .command i ∧ decodeTableWord 16 (encode i).toNat = some i

/-- R73, R78: each word has at most one meaning, and it is that command's word. -/
def Obligations.EncodeDecodeRoundTrip : Prop :=
  ∀ (w : Word) (i : Instr), decode w = .command i → encode i = w

/-- R77: the decoder and the opcode map's match and mask agree on every word, and no two rows share one. -/
def Obligations.DecoderAgreesWithOpcodeMap : Prop :=
  ∀ w : Word,
    (∀ r ∈ opcodeTable, r.matches w = true → ∃ i, decode w = .command i ∧ i.mnemonic = r.mnemonic) ∧
    (∀ i, decode w = .command i → ∃ r ∈ opcodeTable, r.matches w = true ∧ r.mnemonic = i.mnemonic) ∧
    (∀ r ∈ opcodeTable, ∀ q ∈ opcodeTable, r.matches w = true → q.matches w = true → r = q)

/-- R73: a word is illegal exactly when its OP is reserved, its RSV is not zero, or it is an INIT or RESET
whose ARG is not zero. -/
def Obligations.IllegalWordsAreTheReservedOnes : Prop :=
  ∀ w : Word, (∃ why, decode w = .illegal why) ↔
    (opField w ≠ 0x1 ∧ opField w ≠ 0x2 ∧ opField w ≠ 0x3 ∧ opField w ≠ 0x4) ∨ rsvField w ≠ 0 ∨
    ((opField w = 0x1 ∨ opField w = 0x3) ∧ argField w ≠ 0)

/-- spec/95_test_vectors.md L2.1: words written out from the encodings. -/
def Obligations.SampleWordsDecode : Prop :=
  decode 0x1000 = .command .init ∧ decode 0x2000 = .command (.add 0) ∧ decode 0x20FF = .command (.add 255) ∧
  decode 0x3000 = .command .reset ∧ decode 0x4010 = .command (.get 16) ∧ decode 0x40FF = .command (.get 255) ∧
  decode 0x0000 = .illegal .reservedOp ∧ decode 0x1001 = .illegal .operandNotZero ∧
  decode 0x2100 = .illegal .reservedField

/-! ### Ports, status and response -/

/-- R35: BUSY in bit 0 is 1 exactly when `FSM` is not `IDLE`, STATE in bits 4:1 is the code of `FSM`, bits 7:5 are
zero, and COUNT in bits 15:8 is `COUNT`. R25: the codes of the nine states are 0 to 8, in the rule's order. -/
def Obligations.StatusWordFields : Prop :=
  (∀ s : State,
    (s.statusWord.getLsbD 0 = true ↔ s.fsm ≠ .idle) ∧ s.statusWord.extractLsb' 1 4 = fsmCode s.fsm ∧
    s.statusWord.extractLsb' 5 3 = 0 ∧ s.statusWord.extractLsb' 8 8 = s.count) ∧
  [Fsm.idle, .initAdd, .getKey, .getSample, .getXor, .getEnc, .getOut, .wipe, .respond].map fsmCode =
    [0x0, 0x1, 0x2, 0x3, 0x4, 0x5, 0x6, 0x7, 0x8]

/-- R74: CODE in bits 7:0, CAUSE in bits 10:8 and zero in bits 15:11 of a response word, for every CODE and CAUSE. -/
def Obligations.ResponseWordFields : Prop :=
  ∀ (code : Byte) (cause : BitVec 3),
    codeOf (responseWord code cause) = code ∧ causeOf (responseWord code cause) = cause ∧
    (responseWord code cause).extractLsb' 11 5 = 0

/-- R201: the response word of each of the seven error kinds. -/
def Obligations.ErrorKindWords : Prop :=
  errorWord .registryFull = 0x03FE ∧ errorWord .noSource = 0x02FF ∧ errorWord .reqTooLarge = 0x01FD ∧
  errorWord .cipherInitFail = 0x04FD ∧ errorWord .cipherEncFail = 0x05FD ∧ errorWord .sourceFail = 0x06FD ∧
  errorWord .illegalCmd = 0x07FD

/-- R53: on a 128-bit bus byte `i` sits in bits `[8i+7:8i]`, and the bus gives the byte array back. -/
def Obligations.BusByteOrder : Prop :=
  ∀ v : Bytes16, (∀ (i : Nat) (h : i < 16), (busOf v).extractLsb' (8 * i) 8 = v[i]) ∧ bytesOfBus (busOf v) = v

/-- R29: `KEY[i] = i` in every state. -/
def Obligations.KeyIsIdentitySequence : Prop :=
  ∀ (s : State) (i : Nat) (h : i < 16), s.key[i] = BitVec.ofNat 8 i

/-- R125: the line of port `p` is raised exactly in `GET_SAMPLE` with `p = SRC[IDX]` connected; the cipher is asked
exactly in `GET_KEY`, for a LOADKEY of `KEY`, and in `GET_ENC`, for an ENCRYPT of `ACC`; so never more than one
request is raised. The request that a run logs is the one raised, and the output ports carry it. -/
def Obligations.OneRequestInFlight : Prop :=
  ∀ s : State,
    (∀ p, s.srcReq p = true ↔ s.fsm = .getSample ∧ p = s.srcAt s.idx.toNat ∧ p.toNat < s.cfg.numSourcePorts) ∧
    (∀ k, s.cipReq = some (.loadKey k) ↔ s.fsm = .getKey ∧ k = s.key) ∧
    (∀ b, s.cipReq = some (.encrypt b) ↔ s.fsm = .getEnc ∧ b = s.acc) ∧
    (∀ p q, s.srcReq p = true → s.srcReq q = true → p = q) ∧ (∀ p, s.srcReq p = true → s.cipReq = none) ∧
    (∀ p, s.request = some (.sample p) ↔ s.srcReq p = true) ∧
    (∀ k, s.request = some (.loadKey k) ↔ s.cipReq = some (.loadKey k)) ∧
    (∀ b, s.request = some (.encrypt b) ↔ s.cipReq = some (.encrypt b)) ∧
    ∀ rst : Bool,
      (∀ p : Byte, p.toNat < s.cfg.numSourcePorts → (s.outputs rst).srcReq[p.toNat]? = some (s.srcReq p)) ∧
      (s.outputs rst).srcLen = 16 ∧
      ((s.outputs rst).cipReqValid = true ↔ s.fsm = .getKey ∨ s.fsm = .getEnc) ∧
      ((s.outputs rst).cipReqOp = true ↔ s.fsm = .getEnc) ∧
      (s.outputs rst).cipReqData = busOf (if s.fsm = .getEnc then s.acc else s.key)

/-! ### One step -/

/-- R120: in `IDLE`, with no hardware reset, the step takes the word on the command port and is `exec` of the
command it decodes to, on the state in which the outside world has moved on by one edge. -/
def Obligations.StepRunsDecodedCommand : Prop :=
  ∀ (s : State) (w : Word) (i : Instr), s.fsm = .idle → s.nextEdge.rst = false → s.nextEdge.cmd = some w →
    decode w = .command i → step s = exec i (s.worldNext s.nextEdge)

/-- R208: an illegal word is answered ERR, ILLEGAL_CMD (0x07FD) and changes no other state of the block. -/
def Obligations.IllegalCommandAnsweredOnly : Prop :=
  ∀ (s : State) (w : Word) (why : IllegalReason), s.fsm = .idle → s.nextEdge.rst = false →
    s.nextEdge.cmd = some w → decode w = .illegal why →
    step s = .next { s.worldNext s.nextEdge with rsp := 0x07FD, rspv := true, fsm := .respond }

/-- R120: in `IDLE` without a command nothing of the block changes. -/
def Obligations.IdleWaitsForCommand : Prop :=
  ∀ s : State, s.fsm = .idle → s.nextEdge.rst = false → s.nextEdge.cmd = none →
    step s = .next (s.worldNext s.nextEdge)

/-- R120, R246: outside `IDLE`, with no hardware reset, the step is the transition of the FSM state under the
answers of the agents. -/
def Obligations.BusyStepIsOneTransition : Prop :=
  ∀ s : State, s.fsm ≠ .idle → s.nextEdge.rst = false →
    step s = .next (stepBusy (s.inputsAt s.nextEdge) (s.worldNext s.nextEdge))

/-- The model's own (log entry 3): a word laid on the command port is what the very next step runs. -/
def Obligations.FetchWordIsRunNext : Prop :=
  ∀ (s : State) (i : Instr),
    step (s.withFetchWord 16 (encode i).toNat) =
      exec i ((s.withFetchWord 16 (encode i).toNat).worldNext (commandEdge (encode i)))

/-- R58, R242: a command presented while the block is busy is not taken and changes nothing. -/
def Obligations.CommandWhileBusyNotTaken : Prop :=
  ∀ (s : State) (e : Edge) (c : Option Word), s.fsm ≠ .idle → machineEdge { e with cmd := c } s = machineEdge e s

/-- R200: no step traps, crashes or is refused: every state has a next state. -/
def Obligations.EveryStepHasNextState : Prop := ∀ s : State, ∃ t, step s = .next t

/-! ### The registry commands (spec/40_registry.md) -/

/-- R100: with room, ADD appends the port id, whatever it is, counts it and answers OK; a full registry is left
unchanged and the answer is MAX_SRC. Nothing else of the machine changes. -/
def Obligations.AddAppendsOrAnswersFull : Prop :=
  ∀ (s : State) (p : Byte),
    (s.count.toNat < s.cfg.maxNumSources → exec (.add p) s =
      .next { s with src := s.src.set s.count.toNat p, count := s.count + 1,
                     rsp := 0x0000, rspv := true, fsm := .respond }) ∧
    (s.cfg.maxNumSources ≤ s.count.toNat → exec (.add p) s =
      .next { s with rsp := 0x03FE, rspv := true, fsm := .respond })

/-- R102: from an empty registry the first `MAX_NUM_SOURCES` ADDs answer OK and register their ports in order;
the next answers MAX_SRC, and `COUNT` ends at `MAX_NUM_SOURCES`. -/
def Obligations.RegistryCapacity : Prop :=
  ∀ (s : State) (ps : List Byte) (p : Byte), s.Inv → s.count = 0 → ps.length = s.cfg.maxNumSources →
    (∀ k, 1 ≤ k → k ≤ ps.length → ∃ u, execAll ((ps.take k).map .add) s = .next u ∧ u.rsp = 0x0000 ∧
      u.registered = ps.take k) ∧
    ∃ t, execAll ((ps ++ [p]).map .add) s = .next t ∧ t.rsp = 0x03FE ∧
      t.count.toNat = s.cfg.maxNumSources ∧ t.registered = ps

/-- R104: RESET zeroes every entry and `COUNT` and answers OK; nothing else of the machine changes. -/
def Obligations.ResetEmptiesRegistry : Prop :=
  ∀ s : State,
    exec .reset s = .next { s with src := List.replicate s.cfg.maxNumSources 0, count := 0,
                                   rsp := 0x0000, rspv := true, fsm := .respond }

/-- R105: RESET leaves `COUNT = 0`, and while `COUNT = 0` a GET whose length is legal answers NO_SRC; under
NOSRC_FIRST, a GET of any length. -/
def Obligations.GetAfterResetAnswersNoSource : Prop :=
  (∀ s t : State, exec .reset s = .next t → t.count = 0) ∧
  ∀ (s : State) (n : Byte), s.count = 0 →
    (n.toNat ≤ s.cfg.maxBytesRequest ∨ s.cfg.checkOrder = .nosrcFirst) →
    exec (.get n) s = .next { s with rsp := 0x02FF, rspv := true, fsm := .respond }

/-! ### INIT (spec/41_conditioner.md section 2) -/

/-- R121: INIT is accepted in every state of the registry; then, one `INIT_ADD` transition for each entry of
`AUTO_SOURCES` and one more, whatever the inputs, it appends the entries there is room for, in order, and
answers the total `COUNT`, or NO_SRC if the registry is still empty. -/
def Obligations.InitRegistersAutoSources : Prop :=
  ∀ s : State, s.Inv → s.fsm = .idle → ∃ t, exec .init s = .next t ∧
    ∀ ins : List Inputs, ins.length = s.cfg.autoSources.length + 1 →
      busyRun ins t =
        (if (s.cfg.autoSources.foldl State.addEntry s).count = 0 then
          (s.cfg.autoSources.foldl State.addEntry s).respondError .noSource
        else (s.cfg.autoSources.foldl State.addEntry s).respond
          (s.cfg.autoSources.foldl State.addEntry s).count causeNone)

/-- R120, R121: INIT, as it is accepted, sets `IDX` to 0 and goes to `INIT_ADD`; nothing else changes. -/
def Obligations.InitAccepted : Prop :=
  ∀ s : State, exec .init s = .next { s with idx := 0, fsm := .initAdd }

/-- R122: INIT answers NO_SRC exactly when `COUNT = 0` before it and `AUTO_SOURCES` is empty. -/
def Obligations.InitNoSourceExactlyWhenNothingRegistered : Prop :=
  ∀ (s t : State) (ins : List Inputs), s.Inv → s.fsm = .idle → exec .init s = .next t →
    ins.length = s.cfg.autoSources.length + 1 →
    ((busyRun ins t).rsp = 0x02FF ↔ s.count = 0 ∧ s.cfg.autoSources = [])

/-! ### GET (spec/41_conditioner.md section 3) -/

/-- R123, R136, R205: a GET that fails its checks answers the first error in `CHECK_ORDER`; it writes nothing
and starts nothing. -/
def Obligations.GetEarlyFailure : Prop :=
  ∀ (s : State) (n : Byte),
    (s.cfg.maxBytesRequest < n.toNat → s.cfg.checkOrder = .lenFirst ∨ s.count ≠ 0 →
      exec (.get n) s = .next { s with rsp := 0x01FD, rspv := true, fsm := .respond }) ∧
    (s.count = 0 → s.cfg.checkOrder = .nosrcFirst ∨ n.toNat ≤ s.cfg.maxBytesRequest →
      exec (.get n) s = .next { s with rsp := 0x02FF, rspv := true, fsm := .respond })

/-- R123: a GET that passes its checks clears the accumulator and asks for the key load. -/
def Obligations.GetAccepted : Prop :=
  ∀ (s : State) (n : Byte), n.toNat ≤ s.cfg.maxBytesRequest → s.count ≠ 0 →
    exec (.get n) s = .next { s with acc := zero16, raw := zero16, len := n, idx := 0, oidx := 0, fsm := .getKey }

/-- R140: from acceptance, whatever the agents answer and however long each waits, a GET whose response is
valid has done exactly what `GET_ref` says, and has made its requests in its order; and such a run exists. -/
def Obligations.GetFollowsReference : Prop :=
  ∀ (s : State) (n : Byte) (a : Answers), s.Inv → s.fsm = .idle → n.toNat ≤ s.cfg.maxBytesRequest → s.count ≠ 0 →
    ∃ u, exec (.get n) s = .next u ∧
      GetRun a u (s.afterGet n (s.getRef a)) (s.getRefRequests a) ∧
      ∀ t log, GetRun a u t log → t.fsm = .respond → t = s.afterGet n (s.getRef a) ∧ log = s.getRefRequests a

/-- R131, R55, R75: over stubs and a cipher that answers at once, a GET of `n` bytes taken from `IDLE` has
after `4 + 3·COUNT + n` steps a valid response with CODE `n`, and has written to the host's buffer the first
`n` bytes of the cascade of `E_KEY` over the registered sources, and no other byte. The number of steps follows
the accounting of R246, which the spec calls informative (log entry 15). -/
def Obligations.StubGetWritesCascade : Prop :=
  ∀ (s : State) (e : Edge) (rest : List Edge) (n : Byte), s.Inv → s.fsm = .idle → s.AllStubs →
    n.toNat ≤ s.cfg.maxBytesRequest → s.count ≠ 0 → s.script = e :: rest → e.cmd = some (encode (.get n)) →
    3 + 3 * s.count.toNat + n.toNat ≤ rest.length →
    e.rst = false → (∀ f ∈ rest.take (3 + 3 * s.count.toNat + n.toNat), edgeServes f) →
    ∃ t, Host.Core.run Sys2Proof.core (4 + 3 * s.count.toNat + n.toNat) s = .next t ∧
      t.fsm = .respond ∧ t.rspv = true ∧ t.rsp = responseWord n causeNone ∧ t.DatapathClear ∧
      t.src = s.src ∧ t.count = s.count ∧ t.outBase = e.outBuffer.getD s.outBase ∧
      (∀ j, j < n.toNat → t.hostMem.read (t.outBase + j) =
        some (byteAt (cascade s.cfg.cipher s.stubBytes s.registered zero16) j)) ∧
      (∀ x, (∀ j, j < n.toNat → x ≠ t.outBase + j) → t.hostMem.read x = s.hostMem.read x)

/-- R124: the answer to LOADKEY, whose data is ignored, and the wait for it. -/
def Obligations.KeyLoadAnswer : Prop :=
  ∀ (s : State) (i : Inputs) (d : Bytes16), s.fsm = .getKey →
    (i.cip = some ⟨true, d⟩ → stepBusy i s = { s with fsm := .getSample }) ∧
    (i.cip = some ⟨false, d⟩ → stepBusy i s = { s with rsp := 0x04FD, fsm := .wipe }) ∧
    (i.cip = none → stepBusy i s = s)

/-- R127, R128: the answer of a connected source: `RAW` takes its bytes; under ABORT any status but 16 fails
the GET, else the sample is folded in next. -/
def Obligations.SampleAnswerTaken : Prop :=
  ∀ (s : State) (i : Inputs) (a : SrcAnswer), s.fsm = .getSample → s.connected s.roundPort = true →
    i.src s.roundPort = some a →
    (s.cfg.srcFailPolicy = .abort → s8 a.status ≠ 16 →
      stepBusy i s = { s with raw := a.data, rsp := 0x06FD, fsm := .wipe }) ∧
    (s.cfg.srcFailPolicy = .ignore ∨ s8 a.status = 16 →
      stepBusy i s = { s with raw := a.data, fsm := .getXor })

/-- R163: an id with no provider is answered at once with status -1 and zero bytes. -/
def Obligations.UnconnectedPortAnswersAtOnce : Prop :=
  ∀ (s : State) (i : Inputs), s.fsm = .getSample → s.cfg.numSourcePorts ≤ s.roundPort.toNat →
    stepBusy i s =
      (if s.cfg.srcFailPolicy = .abort then { s with raw := zero16, rsp := 0x06FD, fsm := .wipe }
       else { s with raw := zero16, fsm := .getXor })

/-- R162: the bytes of an answer that its status says are filled are the provider's sample; the others are
whatever is drawn. -/
def Obligations.DefinedBytesOfAnswer : Prop :=
  ∀ (st : Byte) (sample free : Bytes16) (i : Nat) (h : i < 16),
    (0 ≤ s8 st → s8 st ≤ 16 → i < st.toNat → (portData st sample free)[i] = sample[i]) ∧
    (0 ≤ s8 st → s8 st ≤ 16 → st.toNat ≤ i → (portData st sample free)[i] = free[i]) ∧
    (s8 st < 0 ∨ 16 < s8 st → (portData st sample free)[i] = free[i])

/-- R129: `ACC[i] <- ACC[i] xor RAW[i]` for each `i`, and nothing else but the next state. -/
def Obligations.XorFoldsSample : Prop :=
  ∀ (s : State) (i : Inputs), s.fsm = .getXor → ∃ v : Bytes16,
    (∀ (k : Nat) (h : k < 16), v[k] = s.acc[k] ^^^ s.raw[k]) ∧ stepBusy i s = { s with acc := v, fsm := .getEnc }

/-- R130: the answer to ENCRYPT becomes the accumulator and the next source follows, or the output after the
last; a failed one leaves `ACC` as it is; without one the block waits. -/
def Obligations.EncryptAnswer : Prop :=
  ∀ (s : State) (i : Inputs) (d : Bytes16), s.fsm = .getEnc →
    (i.cip = some ⟨true, d⟩ → s.idx.toNat + 1 < s.count.toNat →
      stepBusy i s = { s with acc := d, idx := s.idx + 1, fsm := .getSample }) ∧
    (i.cip = some ⟨true, d⟩ → s.count.toNat ≤ s.idx.toNat + 1 →
      stepBusy i s = { s with acc := d, idx := s.idx + 1, oidx := 0, fsm := .getOut }) ∧
    (i.cip = some ⟨false, d⟩ → stepBusy i s = { s with rsp := 0x05FD, fsm := .wipe }) ∧
    (i.cip = none → stepBusy i s = s)

/-- R132, R55: `GET_OUT` writes byte `OIDX` of the accumulator at `out + OIDX` and no other byte; after the
last it records CODE `LEN`. The registers change as the rule says and nothing else does. -/
def Obligations.OutputByteWritten : Prop :=
  ∀ (s : State) (i : Inputs), s.fsm = .getOut →
    (s.oidx.toNat < s.len.toNat → ∃ m x,
      stepBusy i s = { s with hostMem := m, anyBytes := x, oidx := s.oidx + 1 } ∧
      m.read (s.outAddr s.oidx) = some (byteAt s.acc s.oidx.toNat) ∧
      (∀ a, a ≠ s.outAddr s.oidx → m.read a = s.hostMem.read a) ∧
      (∀ a, a ∈ x ↔ a ∈ s.anyBytes ∧ a ≠ s.outAddr s.oidx)) ∧
    (s.len.toNat ≤ s.oidx.toNat → stepBusy i s = { s with rsp := responseWord s.len causeNone, fsm := .wipe })

/-- R135: the secure wipe, through which every GET that has started the cipher passes. -/
def Obligations.WipeClearsDatapath : Prop :=
  ∀ (s : State) (i : Inputs),
    (s.fsm = .wipe →
      stepBusy i s = { s with acc := zero16, raw := zero16, idx := 0, oidx := 0, len := 0, rspv := true,
                              fsm := .respond }) ∧
    (s.fsm ∈ [.getKey, .getSample, .getXor, .getEnc, .getOut] →
      (stepBusy i s).fsm ∈ [.getKey, .getSample, .getXor, .getEnc, .getOut, .wipe])

/-- R137: the response is handed over when the host is ready, and waits until then; `RSP` keeps its value. -/
def Obligations.ResponseHandedOver : Prop :=
  ∀ (s : State) (i : Inputs), s.fsm = .respond →
    (i.rspReady = true → stepBusy i s = { s with rspv := false, fsm := .idle }) ∧
    (i.rspReady = false → stepBusy i s = s)

/-- R126, R183, R209, R243: without the answer it waits for, the block stays as it is for ever: no timeout
exists. -/
def Obligations.MissingAnswerHoldsForever : Prop :=
  ∀ (s : State) (ins : List Inputs), (∀ i ∈ ins, i.rst = false) →
    (s.fsm = .getSample ∧ s.connected s.roundPort = true ∧ (∀ i ∈ ins, i.src s.roundPort = none) ∨
     (s.fsm = .getKey ∨ s.fsm = .getEnc) ∧ (∀ i ∈ ins, i.cip = none) ∨
     s.fsm = .respond ∧ (∀ i ∈ ins, i.rspReady = false)) →
    clockRun ins s = .next s

/-- R138: an answer nobody asked for changes nothing, in any state. -/
def Obligations.UnaskedAnswersIgnored : Prop :=
  ∀ (s : State) (i j : Inputs), i.rst = j.rst → i.cmd = j.cmd → i.rspReady = j.rspReady →
    (s.fsm = .getSample → s.connected s.roundPort = true → i.src s.roundPort = j.src s.roundPort) →
    (s.fsm = .getKey ∨ s.fsm = .getEnc → i.cip = j.cip) → clockEdge i s = clockEdge j s

/-- R22, R103, R104, R136: the frame of the commands as they are accepted. No command writes the host's memory, an
agent or `RAW`'s sample; only ADD and RESET write the registry; INIT writes only `IDX` and `FSM`; a GET that
starts writes no response and one that fails no datapath register. -/
def Obligations.CommandFrames : Prop :=
  ∀ (i : Instr) (s t : State), exec i s = .next t →
    (∀ a, t.hostMem.read a = s.hostMem.read a) ∧ t.anyBytes = s.anyBytes ∧ t.outBase = s.outBase ∧
    t.jitter = s.jitter ∧ t.cipher = s.cipher ∧ t.cfg = s.cfg ∧ t.script = s.script ∧ t.edgeNo = s.edgeNo ∧
    (match i with
     | .init => t.src = s.src ∧ t.count = s.count ∧ t.oidx = s.oidx ∧ t.len = s.len ∧ t.acc = s.acc ∧
         t.raw = s.raw ∧ t.rsp = s.rsp ∧ t.rspv = s.rspv
     | .add _ | .reset => t.idx = s.idx ∧ t.oidx = s.oidx ∧ t.len = s.len ∧ t.acc = s.acc ∧ t.raw = s.raw ∧
         t.fsm = .respond
     | .get _ => t.src = s.src ∧ t.count = s.count ∧
         (t.fsm = .respond ∧ t.idx = s.idx ∧ t.oidx = s.oidx ∧ t.len = s.len ∧ t.acc = s.acc ∧ t.raw = s.raw ∨
          t.fsm = .getKey ∧ t.rsp = s.rsp ∧ t.rspv = s.rspv))

/-! ### Hardware reset (spec/70_reset_and_hazards.md) -/

/-- R39: after reset, in the reference configuration, every register has the value the rule gives; `cmd_ready` is 1
but 0 while `rst = 1`; no output write and no request is made. -/
def Obligations.ResetStateValues : Prop :=
  State.reset.RegistersReset ∧ State.reset.src = [0, 0, 0] ∧ State.reset.statusWord = 0x0000 ∧
  State.reset.cfg = Config.reference ∧ State.reset.key = keyRom ∧
  (State.reset.outputs false).cmdReady = true ∧ (State.reset.outputs true).cmdReady = false ∧
  (State.reset.outputs false).outWe = false ∧ (State.reset.outputs false).cipReqValid = false ∧
  (State.reset.outputs false).srcReq = [false, false, false]

/-- R230, R233, R234: a step at which `rst = 1` gives every register its reset value, whatever state the FSM was
in, gives no response, and reaches neither the host's memory nor the agents: the cipher unit goes on as at any
edge, and so does the timer-jitter provider, but that its measurement may have ended by then (I23). That the
byte of `GET_OUT` is not written at that edge is the model's deduction (log entry 13). -/
def Obligations.HardwareResetAtAnyTime : Prop :=
  ∀ s : State, s.nextEdge.rst = true → ∃ t, step s = .next t ∧ t.RegistersReset ∧
    t.src.length = s.cfg.maxNumSources ∧ t.cfg = s.cfg ∧ (∀ a, t.hostMem.read a = s.hostMem.read a) ∧
    t.jitter = (if s.nextEdge.jitter.endsAtReset then
        jitterRelease (jitterNext s.jitterReq s.nextEdge.jitter s.jitter)
      else jitterNext s.jitterReq s.nextEdge.jitter s.jitter) ∧
    t.cipher = s.cipherNext s.nextEdge.cipher

/-- R232, with the extent of the buffer from log entry 7: after a hardware reset in `GET_OUT` the host may take
no byte of its buffer for a value. -/
def Obligations.ResetInGetOutLeavesAnyValue : Prop :=
  ∀ (s t : State), s.nextEdge.rst = true → s.fsm = .getOut → step s = .next t →
    ∀ j, j < s.cfg.maxBytesRequest → t.hostByte (s.outBase + j) = none

/-! ### Invariants and whole-machine rules -/

/-- R39: the invariant holds after reset, in the reference configuration and in every legal one. -/
def Obligations.InvariantAtReset : Prop :=
  State.reset.Inv ∧ ∀ c : Config, c.wellFormed = true → (State.powerOn c).Inv

/-- R21, R23, R27, R28, R33, R76, R143: every step keeps the invariant. -/
def Obligations.StepKeepsInvariant : Prop :=
  ∀ s t : State, s.Inv → step s = .next t → t.Inv

/-- R22: a step changes `SRC` or `COUNT` only at a hardware reset, in `INIT_ADD`, or when it takes an ADD or a
RESET. -/
def Obligations.RegistryWrittenOnlyByItsCommands : Prop :=
  ∀ s t : State, step s = .next t → t.src ≠ s.src ∨ t.count ≠ s.count →
    s.nextEdge.rst = true ∨ s.fsm = .initAdd ∨
    (s.fsm = .idle ∧ ∃ w, s.nextEdge.cmd = some w ∧
      (decode w = .command .reset ∨ ∃ p, decode w = .command (.add p)))

/-- R50, R55, R133: a byte of the host's memory changes only by the write of `GET_OUT`, at its address, and
`GET_OUT` goes on to nothing but itself or the successful end. That no byte is written at an edge with `rst = 1`
is the model's deduction (log entry 13). -/
def Obligations.OnlyOutputWritesHostMemory : Prop :=
  ∀ s t : State, step s = .next t →
    (∀ a, t.hostMem.read a ≠ s.hostMem.read a →
      (s.outputs s.nextEdge.rst).outWe = true ∧ s.fsm = .getOut ∧ a = s.outAddr s.oidx ∧
      t.hostMem.read a = some (byteAt s.acc s.oidx.toNat)) ∧
    (s.fsm = .getOut → s.nextEdge.rst = false →
      t.fsm = .getOut ∨ t.fsm = .wipe ∧ t.rsp = responseWord s.len causeNone)

/-- R59, R134: when a response becomes valid the datapath is clear and no output write is made at that edge. -/
def Obligations.ResponseAfterWritesAndWipe : Prop :=
  ∀ s t : State, s.Inv → step s = .next t → s.rspv = false → t.rspv = true →
    t.DatapathClear ∧ t.hostMem = s.hostMem ∧ s.fsm ≠ .getOut

/-- R51: the block never reads the host's buffer: what is in it changes nothing but what is in it, and the step
writes the same bytes at the same addresses. -/
def Obligations.HostMemoryNeverRead : Prop :=
  ∀ (s t : State) (m : Memory), step s = .next t → ∃ u, step { s with hostMem := m } = .next u ∧
    u = { t with hostMem := u.hostMem } ∧
    ∀ a, u.hostMem.read a = m.read a ∧ t.hostMem.read a = s.hostMem.read a ∨
      u.hostMem.read a = t.hostMem.read a

/-- R33, R145: no state of an earlier GET reaches a later one: two idle blocks with the same configuration and
registry, under the same inputs, do the same at every edge, whatever else differs between them. -/
def Obligations.NoPoolBetweenGets : Prop :=
  ∀ (s t : State) (ins : List Inputs), s.Inv → t.Inv → s.fsm = .idle → t.fsm = .idle → s.cfg = t.cfg →
    s.src = t.src → s.count = t.count →
    ∃ u v, clockRun ins s = .next u ∧ clockRun ins t = .next v ∧ u.SameConditioner v

/-- R141: with sources and a cipher that give the same answers, two GETs of the same length over the same
registry make the same requests, give the same response and write the same bytes, however long each answer
takes. -/
def Obligations.DeterminismUnderFixedSources : Prop :=
  ∀ (s t u v : State) (n : Byte) (a : Answers) (log log' : List Request), s.Inv → t.Inv → s.fsm = .idle →
    t.fsm = .idle → s.cfg = t.cfg → s.src = t.src → s.count = t.count → n.toNat ≤ s.cfg.maxBytesRequest →
    s.count ≠ 0 → GetRun a (s.startGet n) u log → GetRun a (t.startGet n) v log' → u.fsm = .respond →
    v.fsm = .respond →
    u.rsp = v.rsp ∧ log = log' ∧
    (u.rsp = responseWord n causeNone → ∀ j, j < n.toNat →
      u.hostMem.read (s.outBase + j) = v.hostMem.read (t.outBase + j) ∧
      (u.hostMem.read (s.outBase + j)).isSome = true)

/-! ### The agents (spec/42_noise_sources.md, spec/43_block_cipher.md) -/

/-- R166, R167, R168: the timer-jitter provider, Idle when port `p` asks it, stays Sampling with `32 - k`
measurements to come after `k < 32` wakes over any number of edges, however its clocks run, and answers at the
edge at which the 32nd wake has come. -/
def Obligations.JitterAnswersAtThirtySecondWake : Prop :=
  ∀ (p : Byte) (j₀ j : TimerJitter) (d : JitterDraw) (ds : List JitterDraw), j₀.mode = .idle →
    j = (d :: ds).foldl (fun j d => jitterNext (some p) d j) j₀ →
    ((d :: ds).map fun d => d.wakes.length).sum < 32 →
    j.mode = .sampling ∧ j.remaining = 32 - ((d :: ds).map fun d => d.wakes.length).sum ∧ j.caller = some p ∧
    ∀ e : JitterDraw, jitterAnswers (some p) e j =
      if 32 ≤ ((d :: ds).map fun d => d.wakes.length).sum + e.wakes.length then some p else none

/-- R232, R233, with the model's deduction of log entry 9: at the edge at which the request of a measurement has
dropped, nobody is answered and the caller is lost; from then on no edge of that measurement answers anybody, not
even a later request, which waits for its end. -/
def Obligations.AbandonedMeasurementNotAnswered : Prop :=
  ∀ (j : TimerJitter) (req : Option Byte) (d : JitterDraw), j.mode = .sampling →
    j.caller = none ∨ (∃ p, j.caller = some p ∧ req ≠ some p) →
    jitterAnswers req d j = none ∧ (jitterNext req d j).caller = none

/-- R181: after the block's successful LOADKEY, a successful ENCRYPT answers `E_KEY(ACC)`. -/
def Obligations.SuccessfulEncryptIsCipher : Prop :=
  ∀ (s : State) (e : Edge), s.Inv → s.fsm = .getEnc → e.cipher.answers = true → e.cipher.ok = true →
    (s.inputsAt e).cip = some ⟨true, cipherPerm s.cfg.cipher keyRom s.acc⟩

/-- R185: `E_K` is a permutation for each `K`, so with one registered source the accumulator of a successful GET
determines that source's sample. -/
def Obligations.CipherIsInvertible : Prop :=
  ∀ (c : CipherSel) (k : Bytes16), Function.Bijective (cipherPerm c k) ∧
    ∀ (p : Byte) (f g : Byte → Bytes16), cascade c f [p] zero16 = cascade c g [p] zero16 → f p = g p

/-- R190: the reference cipher under `KEY` takes the check vector's plaintext to its ciphertext. -/
def Obligations.ReferenceCipherVector : Prop :=
  aesEncrypt keyRom #v[0x00, 0x11, 0x22, 0x33, 0x44, 0x55, 0x66, 0x77, 0x88, 0x99, 0xaa, 0xbb, 0xcc, 0xdd, 0xee, 0xff]
    = #v[0x69, 0xc4, 0xe0, 0xd8, 0x6a, 0x7b, 0x04, 0x30, 0xd8, 0xcd, 0xb7, 0x80, 0x70, 0xb4, 0xc5, 0x5a]
end

