-- ==== Sys2Proof/Laws/State.lean ====
section
/-! SUPPORT. One lemma for each field and each update of the state, true by `rfl`, so that no proof unfolds a
record update. -/

namespace Sys2Proof.Machine

section
variable (s : State)

@[simp] theorem State.respond_cfg (code : Byte) (cause : BitVec 3) : (s.respond code cause).cfg = s.cfg := rfl
@[simp] theorem State.respond_src (code : Byte) (cause : BitVec 3) : (s.respond code cause).src = s.src := rfl
@[simp] theorem State.respond_count (code : Byte) (cause : BitVec 3) : (s.respond code cause).count = s.count := rfl
@[simp] theorem State.respond_fsm (code : Byte) (cause : BitVec 3) : (s.respond code cause).fsm = .respond := rfl
@[simp] theorem State.respond_idx (code : Byte) (cause : BitVec 3) : (s.respond code cause).idx = s.idx := rfl
@[simp] theorem State.respond_oidx (code : Byte) (cause : BitVec 3) : (s.respond code cause).oidx = s.oidx := rfl
@[simp] theorem State.respond_len (code : Byte) (cause : BitVec 3) : (s.respond code cause).len = s.len := rfl
@[simp] theorem State.respond_acc (code : Byte) (cause : BitVec 3) : (s.respond code cause).acc = s.acc := rfl
@[simp] theorem State.respond_raw (code : Byte) (cause : BitVec 3) : (s.respond code cause).raw = s.raw := rfl
@[simp] theorem State.respond_rsp (code : Byte) (cause : BitVec 3) : (s.respond code cause).rsp = responseWord code cause := rfl
@[simp] theorem State.respond_rspv (code : Byte) (cause : BitVec 3) : (s.respond code cause).rspv = true := rfl
@[simp] theorem State.respond_hostMem (code : Byte) (cause : BitVec 3) : (s.respond code cause).hostMem = s.hostMem := rfl
@[simp] theorem State.respond_anyBytes (code : Byte) (cause : BitVec 3) : (s.respond code cause).anyBytes = s.anyBytes := rfl
@[simp] theorem State.respond_outBase (code : Byte) (cause : BitVec 3) : (s.respond code cause).outBase = s.outBase := rfl
@[simp] theorem State.respond_jitter (code : Byte) (cause : BitVec 3) : (s.respond code cause).jitter = s.jitter := rfl
@[simp] theorem State.respond_cipher (code : Byte) (cause : BitVec 3) : (s.respond code cause).cipher = s.cipher := rfl
@[simp] theorem State.respond_script (code : Byte) (cause : BitVec 3) : (s.respond code cause).script = s.script := rfl
@[simp] theorem State.respond_edgeNo (code : Byte) (cause : BitVec 3) : (s.respond code cause).edgeNo = s.edgeNo := rfl

@[simp] theorem State.finish_cfg (code : Byte) (cause : BitVec 3) : (s.finish code cause).cfg = s.cfg := rfl
@[simp] theorem State.finish_src (code : Byte) (cause : BitVec 3) : (s.finish code cause).src = s.src := rfl
@[simp] theorem State.finish_count (code : Byte) (cause : BitVec 3) : (s.finish code cause).count = s.count := rfl
@[simp] theorem State.finish_fsm (code : Byte) (cause : BitVec 3) : (s.finish code cause).fsm = .wipe := rfl
@[simp] theorem State.finish_idx (code : Byte) (cause : BitVec 3) : (s.finish code cause).idx = s.idx := rfl
@[simp] theorem State.finish_oidx (code : Byte) (cause : BitVec 3) : (s.finish code cause).oidx = s.oidx := rfl
@[simp] theorem State.finish_len (code : Byte) (cause : BitVec 3) : (s.finish code cause).len = s.len := rfl
@[simp] theorem State.finish_acc (code : Byte) (cause : BitVec 3) : (s.finish code cause).acc = s.acc := rfl
@[simp] theorem State.finish_raw (code : Byte) (cause : BitVec 3) : (s.finish code cause).raw = s.raw := rfl
@[simp] theorem State.finish_rsp (code : Byte) (cause : BitVec 3) : (s.finish code cause).rsp = responseWord code cause := rfl
@[simp] theorem State.finish_rspv (code : Byte) (cause : BitVec 3) : (s.finish code cause).rspv = s.rspv := rfl
@[simp] theorem State.finish_hostMem (code : Byte) (cause : BitVec 3) : (s.finish code cause).hostMem = s.hostMem := rfl
@[simp] theorem State.finish_anyBytes (code : Byte) (cause : BitVec 3) : (s.finish code cause).anyBytes = s.anyBytes := rfl
@[simp] theorem State.finish_outBase (code : Byte) (cause : BitVec 3) : (s.finish code cause).outBase = s.outBase := rfl
@[simp] theorem State.finish_jitter (code : Byte) (cause : BitVec 3) : (s.finish code cause).jitter = s.jitter := rfl
@[simp] theorem State.finish_cipher (code : Byte) (cause : BitVec 3) : (s.finish code cause).cipher = s.cipher := rfl
@[simp] theorem State.finish_script (code : Byte) (cause : BitVec 3) : (s.finish code cause).script = s.script := rfl
@[simp] theorem State.finish_edgeNo (code : Byte) (cause : BitVec 3) : (s.finish code cause).edgeNo = s.edgeNo := rfl

@[simp] theorem State.respondError_cfg (k : ErrorKind) : (s.respondError k).cfg = s.cfg := rfl
@[simp] theorem State.respondError_src (k : ErrorKind) : (s.respondError k).src = s.src := rfl
@[simp] theorem State.respondError_count (k : ErrorKind) : (s.respondError k).count = s.count := rfl
@[simp] theorem State.respondError_fsm (k : ErrorKind) : (s.respondError k).fsm = .respond := rfl
@[simp] theorem State.respondError_idx (k : ErrorKind) : (s.respondError k).idx = s.idx := rfl
@[simp] theorem State.respondError_oidx (k : ErrorKind) : (s.respondError k).oidx = s.oidx := rfl
@[simp] theorem State.respondError_len (k : ErrorKind) : (s.respondError k).len = s.len := rfl
@[simp] theorem State.respondError_acc (k : ErrorKind) : (s.respondError k).acc = s.acc := rfl
@[simp] theorem State.respondError_raw (k : ErrorKind) : (s.respondError k).raw = s.raw := rfl
@[simp] theorem State.respondError_rsp (k : ErrorKind) : (s.respondError k).rsp = errorWord k := rfl
@[simp] theorem State.respondError_rspv (k : ErrorKind) : (s.respondError k).rspv = true := rfl
@[simp] theorem State.respondError_hostMem (k : ErrorKind) : (s.respondError k).hostMem = s.hostMem := rfl
@[simp] theorem State.respondError_anyBytes (k : ErrorKind) : (s.respondError k).anyBytes = s.anyBytes := rfl
@[simp] theorem State.respondError_outBase (k : ErrorKind) : (s.respondError k).outBase = s.outBase := rfl
@[simp] theorem State.respondError_jitter (k : ErrorKind) : (s.respondError k).jitter = s.jitter := rfl
@[simp] theorem State.respondError_cipher (k : ErrorKind) : (s.respondError k).cipher = s.cipher := rfl
@[simp] theorem State.respondError_script (k : ErrorKind) : (s.respondError k).script = s.script := rfl
@[simp] theorem State.respondError_edgeNo (k : ErrorKind) : (s.respondError k).edgeNo = s.edgeNo := rfl

@[simp] theorem State.finishError_cfg (k : ErrorKind) : (s.finishError k).cfg = s.cfg := rfl
@[simp] theorem State.finishError_src (k : ErrorKind) : (s.finishError k).src = s.src := rfl
@[simp] theorem State.finishError_count (k : ErrorKind) : (s.finishError k).count = s.count := rfl
@[simp] theorem State.finishError_fsm (k : ErrorKind) : (s.finishError k).fsm = .wipe := rfl
@[simp] theorem State.finishError_idx (k : ErrorKind) : (s.finishError k).idx = s.idx := rfl
@[simp] theorem State.finishError_oidx (k : ErrorKind) : (s.finishError k).oidx = s.oidx := rfl
@[simp] theorem State.finishError_len (k : ErrorKind) : (s.finishError k).len = s.len := rfl
@[simp] theorem State.finishError_acc (k : ErrorKind) : (s.finishError k).acc = s.acc := rfl
@[simp] theorem State.finishError_raw (k : ErrorKind) : (s.finishError k).raw = s.raw := rfl
@[simp] theorem State.finishError_rsp (k : ErrorKind) : (s.finishError k).rsp = errorWord k := rfl
@[simp] theorem State.finishError_rspv (k : ErrorKind) : (s.finishError k).rspv = s.rspv := rfl
@[simp] theorem State.finishError_hostMem (k : ErrorKind) : (s.finishError k).hostMem = s.hostMem := rfl
@[simp] theorem State.finishError_anyBytes (k : ErrorKind) : (s.finishError k).anyBytes = s.anyBytes := rfl
@[simp] theorem State.finishError_outBase (k : ErrorKind) : (s.finishError k).outBase = s.outBase := rfl
@[simp] theorem State.finishError_jitter (k : ErrorKind) : (s.finishError k).jitter = s.jitter := rfl
@[simp] theorem State.finishError_cipher (k : ErrorKind) : (s.finishError k).cipher = s.cipher := rfl
@[simp] theorem State.finishError_script (k : ErrorKind) : (s.finishError k).script = s.script := rfl
@[simp] theorem State.finishError_edgeNo (k : ErrorKind) : (s.finishError k).edgeNo = s.edgeNo := rfl

@[simp] theorem State.wipe_cfg : (s.wipe).cfg = s.cfg := rfl
@[simp] theorem State.wipe_src : (s.wipe).src = s.src := rfl
@[simp] theorem State.wipe_count : (s.wipe).count = s.count := rfl
@[simp] theorem State.wipe_fsm : (s.wipe).fsm = .respond := rfl
@[simp] theorem State.wipe_idx : (s.wipe).idx = 0 := rfl
@[simp] theorem State.wipe_oidx : (s.wipe).oidx = 0 := rfl
@[simp] theorem State.wipe_len : (s.wipe).len = 0 := rfl
@[simp] theorem State.wipe_acc : (s.wipe).acc = zero16 := rfl
@[simp] theorem State.wipe_raw : (s.wipe).raw = zero16 := rfl
@[simp] theorem State.wipe_rsp : (s.wipe).rsp = s.rsp := rfl
@[simp] theorem State.wipe_rspv : (s.wipe).rspv = true := rfl
@[simp] theorem State.wipe_hostMem : (s.wipe).hostMem = s.hostMem := rfl
@[simp] theorem State.wipe_anyBytes : (s.wipe).anyBytes = s.anyBytes := rfl
@[simp] theorem State.wipe_outBase : (s.wipe).outBase = s.outBase := rfl
@[simp] theorem State.wipe_jitter : (s.wipe).jitter = s.jitter := rfl
@[simp] theorem State.wipe_cipher : (s.wipe).cipher = s.cipher := rfl
@[simp] theorem State.wipe_script : (s.wipe).script = s.script := rfl
@[simp] theorem State.wipe_edgeNo : (s.wipe).edgeNo = s.edgeNo := rfl

@[simp] theorem State.handOver_cfg : (s.handOver).cfg = s.cfg := rfl
@[simp] theorem State.handOver_src : (s.handOver).src = s.src := rfl
@[simp] theorem State.handOver_count : (s.handOver).count = s.count := rfl
@[simp] theorem State.handOver_fsm : (s.handOver).fsm = .idle := rfl
@[simp] theorem State.handOver_idx : (s.handOver).idx = s.idx := rfl
@[simp] theorem State.handOver_oidx : (s.handOver).oidx = s.oidx := rfl
@[simp] theorem State.handOver_len : (s.handOver).len = s.len := rfl
@[simp] theorem State.handOver_acc : (s.handOver).acc = s.acc := rfl
@[simp] theorem State.handOver_raw : (s.handOver).raw = s.raw := rfl
@[simp] theorem State.handOver_rsp : (s.handOver).rsp = s.rsp := rfl
@[simp] theorem State.handOver_rspv : (s.handOver).rspv = false := rfl
@[simp] theorem State.handOver_hostMem : (s.handOver).hostMem = s.hostMem := rfl
@[simp] theorem State.handOver_anyBytes : (s.handOver).anyBytes = s.anyBytes := rfl
@[simp] theorem State.handOver_outBase : (s.handOver).outBase = s.outBase := rfl
@[simp] theorem State.handOver_jitter : (s.handOver).jitter = s.jitter := rfl
@[simp] theorem State.handOver_cipher : (s.handOver).cipher = s.cipher := rfl
@[simp] theorem State.handOver_script : (s.handOver).script = s.script := rfl
@[simp] theorem State.handOver_edgeNo : (s.handOver).edgeNo = s.edgeNo := rfl

@[simp] theorem State.clearRegistry_cfg : (s.clearRegistry).cfg = s.cfg := rfl
@[simp] theorem State.clearRegistry_src : (s.clearRegistry).src = List.replicate s.cfg.maxNumSources 0 := rfl
@[simp] theorem State.clearRegistry_count : (s.clearRegistry).count = 0 := rfl
@[simp] theorem State.clearRegistry_fsm : (s.clearRegistry).fsm = s.fsm := rfl
@[simp] theorem State.clearRegistry_idx : (s.clearRegistry).idx = s.idx := rfl
@[simp] theorem State.clearRegistry_oidx : (s.clearRegistry).oidx = s.oidx := rfl
@[simp] theorem State.clearRegistry_len : (s.clearRegistry).len = s.len := rfl
@[simp] theorem State.clearRegistry_acc : (s.clearRegistry).acc = s.acc := rfl
@[simp] theorem State.clearRegistry_raw : (s.clearRegistry).raw = s.raw := rfl
@[simp] theorem State.clearRegistry_rsp : (s.clearRegistry).rsp = s.rsp := rfl
@[simp] theorem State.clearRegistry_rspv : (s.clearRegistry).rspv = s.rspv := rfl
@[simp] theorem State.clearRegistry_hostMem : (s.clearRegistry).hostMem = s.hostMem := rfl
@[simp] theorem State.clearRegistry_anyBytes : (s.clearRegistry).anyBytes = s.anyBytes := rfl
@[simp] theorem State.clearRegistry_outBase : (s.clearRegistry).outBase = s.outBase := rfl
@[simp] theorem State.clearRegistry_jitter : (s.clearRegistry).jitter = s.jitter := rfl
@[simp] theorem State.clearRegistry_cipher : (s.clearRegistry).cipher = s.cipher := rfl
@[simp] theorem State.clearRegistry_script : (s.clearRegistry).script = s.script := rfl
@[simp] theorem State.clearRegistry_edgeNo : (s.clearRegistry).edgeNo = s.edgeNo := rfl

@[simp] theorem State.startGet_cfg (n : Byte) : (s.startGet n).cfg = s.cfg := rfl
@[simp] theorem State.startGet_src (n : Byte) : (s.startGet n).src = s.src := rfl
@[simp] theorem State.startGet_count (n : Byte) : (s.startGet n).count = s.count := rfl
@[simp] theorem State.startGet_fsm (n : Byte) : (s.startGet n).fsm = .getKey := rfl
@[simp] theorem State.startGet_idx (n : Byte) : (s.startGet n).idx = 0 := rfl
@[simp] theorem State.startGet_oidx (n : Byte) : (s.startGet n).oidx = 0 := rfl
@[simp] theorem State.startGet_len (n : Byte) : (s.startGet n).len = n := rfl
@[simp] theorem State.startGet_acc (n : Byte) : (s.startGet n).acc = zero16 := rfl
@[simp] theorem State.startGet_raw (n : Byte) : (s.startGet n).raw = zero16 := rfl
@[simp] theorem State.startGet_rsp (n : Byte) : (s.startGet n).rsp = s.rsp := rfl
@[simp] theorem State.startGet_rspv (n : Byte) : (s.startGet n).rspv = s.rspv := rfl
@[simp] theorem State.startGet_hostMem (n : Byte) : (s.startGet n).hostMem = s.hostMem := rfl
@[simp] theorem State.startGet_anyBytes (n : Byte) : (s.startGet n).anyBytes = s.anyBytes := rfl
@[simp] theorem State.startGet_outBase (n : Byte) : (s.startGet n).outBase = s.outBase := rfl
@[simp] theorem State.startGet_jitter (n : Byte) : (s.startGet n).jitter = s.jitter := rfl
@[simp] theorem State.startGet_cipher (n : Byte) : (s.startGet n).cipher = s.cipher := rfl
@[simp] theorem State.startGet_script (n : Byte) : (s.startGet n).script = s.script := rfl
@[simp] theorem State.startGet_edgeNo (n : Byte) : (s.startGet n).edgeNo = s.edgeNo := rfl

@[simp] theorem State.writeOut_cfg (j b : Byte) : (s.writeOut j b).cfg = s.cfg := rfl
@[simp] theorem State.writeOut_src (j b : Byte) : (s.writeOut j b).src = s.src := rfl
@[simp] theorem State.writeOut_count (j b : Byte) : (s.writeOut j b).count = s.count := rfl
@[simp] theorem State.writeOut_fsm (j b : Byte) : (s.writeOut j b).fsm = s.fsm := rfl
@[simp] theorem State.writeOut_idx (j b : Byte) : (s.writeOut j b).idx = s.idx := rfl
@[simp] theorem State.writeOut_oidx (j b : Byte) : (s.writeOut j b).oidx = s.oidx := rfl
@[simp] theorem State.writeOut_len (j b : Byte) : (s.writeOut j b).len = s.len := rfl
@[simp] theorem State.writeOut_acc (j b : Byte) : (s.writeOut j b).acc = s.acc := rfl
@[simp] theorem State.writeOut_raw (j b : Byte) : (s.writeOut j b).raw = s.raw := rfl
@[simp] theorem State.writeOut_rsp (j b : Byte) : (s.writeOut j b).rsp = s.rsp := rfl
@[simp] theorem State.writeOut_rspv (j b : Byte) : (s.writeOut j b).rspv = s.rspv := rfl
@[simp] theorem State.writeOut_hostMem (j b : Byte) : (s.writeOut j b).hostMem = s.hostMem.write (s.outAddr j) b := rfl
@[simp] theorem State.writeOut_anyBytes (j b : Byte) : (s.writeOut j b).anyBytes = s.anyBytes.filter (· ≠ s.outAddr j) := rfl
@[simp] theorem State.writeOut_outBase (j b : Byte) : (s.writeOut j b).outBase = s.outBase := rfl
@[simp] theorem State.writeOut_jitter (j b : Byte) : (s.writeOut j b).jitter = s.jitter := rfl
@[simp] theorem State.writeOut_cipher (j b : Byte) : (s.writeOut j b).cipher = s.cipher := rfl
@[simp] theorem State.writeOut_script (j b : Byte) : (s.writeOut j b).script = s.script := rfl
@[simp] theorem State.writeOut_edgeNo (j b : Byte) : (s.writeOut j b).edgeNo = s.edgeNo := rfl

@[simp] theorem State.hwReset_cfg : (s.hwReset).cfg = s.cfg := rfl
@[simp] theorem State.hwReset_src : (s.hwReset).src = List.replicate s.cfg.maxNumSources 0 := rfl
@[simp] theorem State.hwReset_count : (s.hwReset).count = 0 := rfl
@[simp] theorem State.hwReset_fsm : (s.hwReset).fsm = .idle := rfl
@[simp] theorem State.hwReset_idx : (s.hwReset).idx = 0 := rfl
@[simp] theorem State.hwReset_oidx : (s.hwReset).oidx = 0 := rfl
@[simp] theorem State.hwReset_len : (s.hwReset).len = 0 := rfl
@[simp] theorem State.hwReset_acc : (s.hwReset).acc = zero16 := rfl
@[simp] theorem State.hwReset_raw : (s.hwReset).raw = zero16 := rfl
@[simp] theorem State.hwReset_rsp : (s.hwReset).rsp = 0 := rfl
@[simp] theorem State.hwReset_rspv : (s.hwReset).rspv = false := rfl
@[simp] theorem State.hwReset_hostMem : (s.hwReset).hostMem = s.hostMem := rfl
@[simp] theorem State.hwReset_anyBytes : (s.hwReset).anyBytes = (if s.fsm = .getOut then s.bufferAddrs ++ s.anyBytes else s.anyBytes) := rfl
@[simp] theorem State.hwReset_outBase : (s.hwReset).outBase = s.outBase := rfl
@[simp] theorem State.hwReset_jitter : (s.hwReset).jitter = s.jitter := rfl
@[simp] theorem State.hwReset_cipher : (s.hwReset).cipher = s.cipher := rfl
@[simp] theorem State.hwReset_script : (s.hwReset).script = s.script := rfl
@[simp] theorem State.hwReset_edgeNo : (s.hwReset).edgeNo = s.edgeNo := rfl

@[simp] theorem State.worldNext_cfg (e : Edge) : (s.worldNext e).cfg = s.cfg := rfl
@[simp] theorem State.worldNext_src (e : Edge) : (s.worldNext e).src = s.src := rfl
@[simp] theorem State.worldNext_count (e : Edge) : (s.worldNext e).count = s.count := rfl
@[simp] theorem State.worldNext_fsm (e : Edge) : (s.worldNext e).fsm = s.fsm := rfl
@[simp] theorem State.worldNext_idx (e : Edge) : (s.worldNext e).idx = s.idx := rfl
@[simp] theorem State.worldNext_oidx (e : Edge) : (s.worldNext e).oidx = s.oidx := rfl
@[simp] theorem State.worldNext_len (e : Edge) : (s.worldNext e).len = s.len := rfl
@[simp] theorem State.worldNext_acc (e : Edge) : (s.worldNext e).acc = s.acc := rfl
@[simp] theorem State.worldNext_raw (e : Edge) : (s.worldNext e).raw = s.raw := rfl
@[simp] theorem State.worldNext_rsp (e : Edge) : (s.worldNext e).rsp = s.rsp := rfl
@[simp] theorem State.worldNext_rspv (e : Edge) : (s.worldNext e).rspv = s.rspv := rfl
@[simp] theorem State.worldNext_hostMem (e : Edge) : (s.worldNext e).hostMem = s.hostMem := rfl
@[simp] theorem State.worldNext_anyBytes (e : Edge) : (s.worldNext e).anyBytes = s.anyBytes := rfl
@[simp] theorem State.worldNext_outBase (e : Edge) : (s.worldNext e).outBase = (if s.fsm = .idle then e.outBuffer.getD s.outBase else s.outBase) := rfl
@[simp] theorem State.worldNext_jitter (e : Edge) : (s.worldNext e).jitter = s.jitterNext e := rfl
@[simp] theorem State.worldNext_cipher (e : Edge) : (s.worldNext e).cipher = s.cipherNext e.cipher := rfl
@[simp] theorem State.worldNext_script (e : Edge) : (s.worldNext e).script = s.script.tail := rfl
@[simp] theorem State.worldNext_edgeNo (e : Edge) : (s.worldNext e).edgeNo = s.edgeNo + 1 := rfl

@[simp] theorem State.addEntry_cfg (p : Byte) : (s.addEntry p).cfg = s.cfg := by
  unfold State.addEntry; split <;> rfl
@[simp] theorem State.addEntry_fsm (p : Byte) : (s.addEntry p).fsm = s.fsm := by
  unfold State.addEntry; split <;> rfl
@[simp] theorem State.addEntry_idx (p : Byte) : (s.addEntry p).idx = s.idx := by
  unfold State.addEntry; split <;> rfl
@[simp] theorem State.addEntry_oidx (p : Byte) : (s.addEntry p).oidx = s.oidx := by
  unfold State.addEntry; split <;> rfl
@[simp] theorem State.addEntry_len (p : Byte) : (s.addEntry p).len = s.len := by
  unfold State.addEntry; split <;> rfl
@[simp] theorem State.addEntry_acc (p : Byte) : (s.addEntry p).acc = s.acc := by
  unfold State.addEntry; split <;> rfl
@[simp] theorem State.addEntry_raw (p : Byte) : (s.addEntry p).raw = s.raw := by
  unfold State.addEntry; split <;> rfl
@[simp] theorem State.addEntry_rsp (p : Byte) : (s.addEntry p).rsp = s.rsp := by
  unfold State.addEntry; split <;> rfl
@[simp] theorem State.addEntry_rspv (p : Byte) : (s.addEntry p).rspv = s.rspv := by
  unfold State.addEntry; split <;> rfl
@[simp] theorem State.addEntry_hostMem (p : Byte) : (s.addEntry p).hostMem = s.hostMem := by
  unfold State.addEntry; split <;> rfl
@[simp] theorem State.addEntry_anyBytes (p : Byte) : (s.addEntry p).anyBytes = s.anyBytes := by
  unfold State.addEntry; split <;> rfl
@[simp] theorem State.addEntry_outBase (p : Byte) : (s.addEntry p).outBase = s.outBase := by
  unfold State.addEntry; split <;> rfl
@[simp] theorem State.addEntry_jitter (p : Byte) : (s.addEntry p).jitter = s.jitter := by
  unfold State.addEntry; split <;> rfl
@[simp] theorem State.addEntry_cipher (p : Byte) : (s.addEntry p).cipher = s.cipher := by
  unfold State.addEntry; split <;> rfl
@[simp] theorem State.addEntry_script (p : Byte) : (s.addEntry p).script = s.script := by
  unfold State.addEntry; split <;> rfl
@[simp] theorem State.addEntry_edgeNo (p : Byte) : (s.addEntry p).edgeNo = s.edgeNo := by
  unfold State.addEntry; split <;> rfl

/-- `add_entry` with room. -/
theorem State.addEntry_of_room (p : Byte) (h : s.hasRoom = true) :
    s.addEntry p = { s with src := s.src.set s.count.toNat p, count := s.count + 1 } := by
  simp [State.addEntry, h]

/-- `add_entry` without room changes nothing. -/
theorem State.addEntry_of_full (p : Byte) (h : s.hasRoom = false) : s.addEntry p = s := by
  simp [State.addEntry, h]

end

end Sys2Proof.Machine
end

