-- ==== Sys2Proof/Laws/Ops.lean ====
section
/-! SUPPORT. What each shared operation can do, said once: the host's memory, the registry, the decoder's
fields, the commands and the transitions. -/

namespace Sys2Proof.Machine

/-! ### The host's memory -/

theorem Memory.read_write (m : Memory) (a : Nat) (v : Byte) (b : Nat) :
    (m.write a v).read b = if b = a then some v else m.read b := by
  induction m with
  | nil => simp [Memory.write, Memory.read, eq_comm]
  | cons c m ih =>
    obtain ⟨k, w⟩ := c
    by_cases h1 : a < k
    · simp [Memory.write, h1, Memory.read, eq_comm]
    · by_cases h2 : a = k
      · subst h2; by_cases h : a = b <;> simp [Memory.write, Memory.read, h, eq_comm]
      · by_cases h : k = b
        · subst h; simp [Memory.write, h1, h2, Memory.read, Ne.symm h2]
        · simp [Memory.write, h1, h2, Memory.read, h, ih]

theorem Memory.read_write_same (m : Memory) (a : Nat) (v : Byte) : (m.write a v).read a = some v := by
  simp [Memory.read_write]

theorem Memory.read_write_other (m : Memory) {a b : Nat} (v : Byte) (h : b ≠ a) :
    (m.write a v).read b = m.read b := by
  simp [Memory.read_write, h]

theorem Memory.mem_write {m : Memory} {a : Nat} {v : Byte} {c : Host.Cell} (h : c ∈ m.write a v) :
    c = (a, v) ∨ c ∈ m := by
  induction m with
  | nil => simpa [Memory.write] using h
  | cons d m ih =>
    obtain ⟨k, w⟩ := d
    unfold Memory.write at h
    split at h
    · simpa using h
    · split at h
      · rcases List.mem_cons.1 h with h | h
        · exact .inl h
        · exact .inr (List.mem_cons_of_mem _ h)
      · rcases List.mem_cons.1 h with h | h
        · exact .inr (h ▸ List.mem_cons_self)
        · exact (ih h).imp id (List.mem_cons_of_mem _)

/-- Every write keeps the canonical form. -/
theorem Memory.wf_write {m : Memory} (h : m.wf) (a : Nat) (v : Byte) : (m.write a v).wf := by
  induction m with
  | nil => simp [Memory.write, Memory.wf]
  | cons d m ih =>
    obtain ⟨k, w⟩ := d
    obtain ⟨hk, hm⟩ := List.pairwise_cons.1 h
    unfold Memory.write
    split
    · rename_i hlt
      refine List.pairwise_cons.2 ⟨fun c hc => ?_, h⟩
      rcases List.mem_cons.1 hc with rfl | hc
      · exact hlt
      · exact hlt.trans (hk c hc)
    · split
      · rename_i _ heq
        subst heq
        exact List.pairwise_cons.2 ⟨hk, hm⟩
      · rename_i h1 h2
        refine List.pairwise_cons.2 ⟨fun c hc => ?_, ih hm⟩
        rcases Memory.mem_write hc with rfl | hc
        · show k < a
          omega
        · exact hk c hc

theorem Memory.wf_reset : State.reset.hostMem.wf := List.Pairwise.nil

/-! ### The output bytes -/

@[simp] theorem State.writeOut_outAddr (s : State) (j b k : Byte) :
    (s.writeOut j b).outAddr k = s.outAddr k := rfl

/-- What a run of output writes leaves alone: all but the host's memory. -/
theorem State.writeBytes_frame (s : State) (v : Bytes16) (n : Nat) :
    s.writeBytes v n =
      { s with hostMem := (s.writeBytes v n).hostMem, anyBytes := (s.writeBytes v n).anyBytes } := by
  induction n with
  | zero => rfl
  | succ n ih => rw [State.writeBytes, ih]; rfl

/-! ### The registry -/

theorem State.hasRoom_iff (s : State) : s.hasRoom = true ↔ s.count.toNat < s.cfg.maxNumSources := by
  simp [State.hasRoom]

theorem State.addEntry_length (s : State) (p : Byte) : (s.addEntry p).src.length = s.src.length := by
  unfold State.addEntry; split <;> simp

/-- `COUNT` after `add_entry`, where the count does not reach 255. -/
theorem State.addEntry_count (s : State) (p : Byte) (h : s.cfg.maxNumSources ≤ 127) :
    (s.addEntry p).count.toNat = if s.hasRoom then s.count.toNat + 1 else s.count.toNat := by
  unfold State.addEntry
  split
  · rename_i hr
    have := s.hasRoom_iff.1 hr
    have h1 : (1 : Byte).toNat = 1 := rfl
    simp only [BitVec.toNat_add, h1]
    omega
  · rfl

/-- The registered sources after an `add_entry` that finds room (R20: insertion order). -/
theorem State.addEntry_registered (s : State) (p : Byte) (hr : s.hasRoom = true)
    (hl : s.src.length = s.cfg.maxNumSources) (h : s.cfg.maxNumSources ≤ 127) :
    (s.addEntry p).registered = s.registered ++ [p] := by
  have hc := s.hasRoom_iff.1 hr
  have hn := s.addEntry_count p h
  rw [if_pos hr] at hn
  unfold State.registered
  rw [hn, State.addEntry_of_room s p hr]
  refine List.ext_getElem (by simp; omega) fun i h1 h2 => ?_
  simp only [List.getElem_take, List.getElem_set, List.getElem_append, List.length_take]
  split
  · subst_vars; simp [Nat.min_eq_left (show s.count.toNat ≤ s.src.length by omega)]
  · rw [dif_pos (by simp at h1 h2; omega)]

/-! ### The ports -/

theorem State.connected_iff (s : State) (p : Byte) : s.connected p = true ↔ p.toNat < s.cfg.numSourcePorts :=
  decide_eq_true_iff

/-! ### The commands -/

/-- All that an accepted command can do. -/
theorem exec_cases {i : Instr} {s t : State} (h : exec i s = .next t) :
    (i = .init ∧ t = { s with idx := 0, fsm := .initAdd }) ∨
    (∃ p, i = .add p ∧ (s.hasRoom = true ∧ t = (s.addEntry p).respond codeOk causeNone ∨
      s.hasRoom = false ∧ t = s.respondError .registryFull)) ∨
    (i = .reset ∧ t = s.clearRegistry.respond codeOk causeNone) ∨
    (∃ n, i = .get n ∧ ((∃ k, s.getCheck n = some k ∧ t = s.respondError k) ∨
      s.getCheck n = none ∧ t = s.startGet n)) := by
  cases i with
  | init => exact .inl ⟨rfl, by injection h with h; exact h.symm⟩
  | add p =>
    refine .inr (.inl ⟨p, rfl, ?_⟩)
    simp only [exec, execAdd] at h
    split at h
    · exact .inl ⟨‹_›, by injection h with h; exact h.symm⟩
    · rename_i hr
      exact .inr ⟨by simpa using hr, by injection h with h; exact h.symm⟩
  | reset => exact .inr (.inr (.inl ⟨rfl, by injection h with h; exact h.symm⟩))
  | get n =>
    refine .inr (.inr (.inr ⟨n, rfl, ?_⟩))
    simp only [exec, execGet] at h
    split at h
    · rename_i k hk; exact .inl ⟨k, hk, by injection h with h; exact h.symm⟩
    · exact .inr ⟨‹_›, by injection h with h; exact h.symm⟩

/-- The two checks of a GET pass exactly when the length is legal and a source is registered. -/
theorem State.getCheck_none_iff (s : State) (n : Byte) :
    s.getCheck n = none ↔ n.toNat ≤ s.cfg.maxBytesRequest ∧ s.count ≠ 0 := by
  unfold State.getCheck State.tooLarge State.isEmpty
  rcases Nat.lt_or_ge s.cfg.maxBytesRequest n.toNat with h1 | h1 <;> by_cases h2 : s.count = 0#8 <;>
    cases s.cfg.checkOrder <;> simp [h1, h2, Nat.not_le.2, Nat.not_lt.2]

/-! ### The transitions -/

theorem stepBusy_idle {s : State} (i : Inputs) (h : s.fsm = .idle) : stepBusy i s = s := by simp [stepBusy, h]
theorem stepBusy_initAdd {s : State} (i : Inputs) (h : s.fsm = .initAdd) : stepBusy i s = stepInitAdd s := by
  simp [stepBusy, h]
theorem stepBusy_getKey {s : State} (i : Inputs) (h : s.fsm = .getKey) : stepBusy i s = stepGetKey i s := by
  simp [stepBusy, h]
theorem stepBusy_getSample {s : State} (i : Inputs) (h : s.fsm = .getSample) :
    stepBusy i s = stepGetSample i s := by simp [stepBusy, h]
theorem stepBusy_getXor {s : State} (i : Inputs) (h : s.fsm = .getXor) : stepBusy i s = stepGetXor s := by
  simp [stepBusy, h]
theorem stepBusy_getEnc {s : State} (i : Inputs) (h : s.fsm = .getEnc) : stepBusy i s = stepGetEnc i s := by
  simp [stepBusy, h]
theorem stepBusy_getOut {s : State} (i : Inputs) (h : s.fsm = .getOut) : stepBusy i s = stepGetOut s := by
  simp [stepBusy, h]
theorem stepBusy_wipe {s : State} (i : Inputs) (h : s.fsm = .wipe) : stepBusy i s = s.wipe := by
  simp [stepBusy, h, stepWipe]
theorem stepBusy_respond {s : State} (i : Inputs) (h : s.fsm = .respond) : stepBusy i s = stepRespond i s := by
  simp [stepBusy, h]

theorem stepGetKey_cases (i : Inputs) (s : State) :
    (i.cip = none ∧ stepGetKey i s = s) ∨
    (∃ d, i.cip = some ⟨true, d⟩ ∧ stepGetKey i s = { s with fsm := .getSample }) ∨
    (∃ d, i.cip = some ⟨false, d⟩ ∧ stepGetKey i s = s.finishError .cipherInitFail) := by
  unfold stepGetKey
  rcases i.cip with _ | ⟨_ | _, d⟩ <;> simp

theorem stepGetSample_cases (i : Inputs) (s : State) :
    (s.sampleAnswer i = none ∧ stepGetSample i s = s) ∨
    (∃ a, s.sampleAnswer i = some a ∧ s.abortsOn a.status = true ∧
      stepGetSample i s = { s with raw := a.data }.finishError .sourceFail) ∨
    (∃ a, s.sampleAnswer i = some a ∧ s.abortsOn a.status = false ∧
      stepGetSample i s = { s with raw := a.data, fsm := .getXor }) := by
  unfold stepGetSample
  rcases s.sampleAnswer i with _ | a
  · simp
  · cases h : s.abortsOn a.status <;> simp [h]

theorem stepGetEnc_cases (i : Inputs) (s : State) :
    (i.cip = none ∧ stepGetEnc i s = s) ∨
    (∃ d, i.cip = some ⟨true, d⟩ ∧ s.idx.toNat + 1 < s.count.toNat ∧
      stepGetEnc i s = { s with acc := d, idx := s.idx + 1, fsm := .getSample }) ∨
    (∃ d, i.cip = some ⟨true, d⟩ ∧ s.count.toNat ≤ s.idx.toNat + 1 ∧
      stepGetEnc i s = { s with acc := d, idx := s.idx + 1, oidx := 0, fsm := .getOut }) ∨
    (∃ d, i.cip = some ⟨false, d⟩ ∧ stepGetEnc i s = s.finishError .cipherEncFail) := by
  unfold stepGetEnc
  rcases i.cip with _ | ⟨_ | _, d⟩
  · simp
  · simp
  · by_cases h : s.idx.toNat + 1 < s.count.toNat
    · simp [h]
    · simp [h]; omega

theorem stepGetOut_cases (s : State) :
    (s.oidx.toNat < s.len.toNat ∧
      stepGetOut s = { s.writeOut s.oidx (byteAt s.acc s.oidx.toNat) with oidx := s.oidx + 1 }) ∨
    (s.len.toNat ≤ s.oidx.toNat ∧ stepGetOut s = s.finish s.len causeNone) := by
  unfold stepGetOut
  by_cases h : s.oidx.toNat < s.len.toNat
  · simp [h]
  · simp [h]; omega

theorem stepInitAdd_cases (s : State) :
    (s.idx.toNat < s.cfg.autoSources.length ∧
      stepInitAdd s = { s.addEntry (s.cfg.autoSources.getD s.idx.toNat 0) with idx := s.idx + 1 }) ∨
    (s.cfg.autoSources.length ≤ s.idx.toNat ∧ s.count = 0 ∧
      stepInitAdd s = { s with idx := 0 }.respondError .noSource) ∨
    (s.cfg.autoSources.length ≤ s.idx.toNat ∧ s.count ≠ 0 ∧
      stepInitAdd s = { s with idx := 0 }.respond s.count causeNone) := by
  unfold stepInitAdd
  by_cases h : s.idx.toNat < s.cfg.autoSources.length
  · simp [h]
  · by_cases hc : s.count = 0
    · refine .inr (.inl ⟨by omega, hc, ?_⟩); rw [if_neg h, if_pos hc]
    · refine .inr (.inr ⟨by omega, hc, ?_⟩); rw [if_neg h, if_neg hc]

theorem stepRespond_cases (i : Inputs) (s : State) :
    (i.rspReady = true ∧ stepRespond i s = s.handOver) ∨ (i.rspReady = false ∧ stepRespond i s = s) := by
  unfold stepRespond
  cases i.rspReady <;> simp

/-! ### The clock edge -/

/-- All that one edge can do to the block. -/
theorem clockEdge_cases {i : Inputs} {s t : State} (h : clockEdge i s = .next t) :
    (i.rst = true ∧ t = s.hwReset) ∨
    (i.rst = false ∧ s.fsm = .idle ∧ i.cmd = none ∧ t = s) ∨
    (i.rst = false ∧ s.fsm = .idle ∧ ∃ w why, i.cmd = some w ∧ decode w = .illegal why ∧
      t = s.respondError .illegalCmd) ∨
    (i.rst = false ∧ s.fsm = .idle ∧ ∃ w c, i.cmd = some w ∧ decode w = .command c ∧ exec c s = .next t) ∨
    (i.rst = false ∧ s.fsm ≠ .idle ∧ t = stepBusy i s) := by
  unfold clockEdge at h
  split at h
  · injection h with h; exact .inl ⟨‹_›, h.symm⟩
  · rename_i hr
    have hr : i.rst = false := by simpa using hr
    split at h
    · rename_i hi
      unfold acceptCommand at h
      split at h
      · rename_i hc; injection h with h; exact .inr (.inl ⟨hr, hi, hc, h.symm⟩)
      · rename_i w hw
        split at h
        · rename_i c hc; exact .inr (.inr (.inr (.inl ⟨hr, hi, w, c, hw, hc, h⟩)))
        · rename_i why hc; injection h with h; exact .inr (.inr (.inl ⟨hr, hi, w, why, hw, hc, h.symm⟩))
    · injection h with h; exact .inr (.inr (.inr (.inr ⟨hr, ‹_›, h.symm⟩)))

/-- The inputs of the step of `s` (the agents answer the state before the edge). -/
theorem step_eq (s : State) : step s = clockEdge (s.inputsAt s.nextEdge) (s.worldNext s.nextEdge) := rfl

@[simp] theorem State.inputsAt_rst (s : State) (e : Edge) : (s.inputsAt e).rst = e.rst := rfl
@[simp] theorem State.inputsAt_cmd (s : State) (e : Edge) : (s.inputsAt e).cmd = e.cmd := rfl
@[simp] theorem State.inputsAt_rspReady (s : State) (e : Edge) : (s.inputsAt e).rspReady = e.rspReady := rfl
@[simp] theorem State.inputsAt_src (s : State) (e : Edge) : (s.inputsAt e).src = s.portAnswer e := rfl
@[simp] theorem State.inputsAt_cip (s : State) (e : Edge) : (s.inputsAt e).cip = s.cipherAnswer e.cipher := rfl

end Sys2Proof.Machine
end

