-- ==== Sys2Proof/Laws/PerInstr.lean ====
section
/-! SUPPORT. Statements made once for each command, as syntax: its word's reserved field, and its row of the
opcode map. -/

namespace Sys2Proof.Laws

/-- R70, R77: the word of a command has `RSV = 0`. -/
def ReservedField.Statement (i : Instr) : Prop := Machine.rsvField (encode i) = 0

theorem ReservedField.init : ReservedField.Statement .init := by unfold ReservedField.Statement; decide
theorem ReservedField.add (p : Byte) : ReservedField.Statement (.add p) := by
  unfold ReservedField.Statement; revert p; decide
theorem ReservedField.reset : ReservedField.Statement .reset := by unfold ReservedField.Statement; decide
theorem ReservedField.get (n : Byte) : ReservedField.Statement (.get n) := by
  unfold ReservedField.Statement; revert n; decide

end Sys2Proof.Laws
end

