-- ==== Sys2Proof/Laws/Safety.lean ====
section
/-! SUPPORT. Lemmas about the vocabulary of the claims: the legal configurations, the invariant's clauses in one
state, the agents between two edges, the output bytes and the reference semantics of a GET. -/

namespace Sys2Proof.Machine

/-- The ranges of a legal configuration, as inequalities. -/
theorem Config.bounds {c : Config} (h : c.wellFormed = true) :
    1 ≤ c.maxNumSources ∧ c.maxNumSources ≤ 127 ∧ c.maxBytesRequest ≤ 16 ∧ c.autoSources.length ≤ 255 := by
  simp [Config.wellFormed, Config.maxNumSourcesOk, Config.maxBytesRequestOk, Config.numSourcePortsOk,
    Config.autoSourcesOk] at h
  omega

theorem State.Inv.datapathClear_idle {s : State} (h : s.Inv) (hf : s.fsm = .idle) : s.DatapathClear := by
  have hp := h.phase
  simpa only [State.PhaseInv, hf] using hp

theorem State.Inv.rspv_eq_false {s : State} (h : s.Inv) (hf : s.fsm ≠ .respond) : s.rspv = false := by
  have hv := h.responseValid
  simpa [hf] using hv

/-! ### The agents -/

/-- The two clauses on the measurements that a provider which is Sampling keeps from wake to wake (R166). -/
def TimerJitter.Counts (j : TimerJitter) : Prop :=
  j.mode = .sampling ∧ j.alarmArmed = true ∧ j.locked = true ∧ j.nibbles.length + j.remaining = 32 ∧
    (j.phase = .first ↔ j.nibbles.length % 2 = 0)

theorem jitterWake_counts {j : TimerJitter} (h : j.Counts) (t : Nat) : (jitterWake j t).Counts := by
  obtain ⟨h1, h2, h3, h4, h5⟩ := h
  unfold jitterWake
  split
  · exact ⟨h1, h2, h3, h4, h5⟩
  · refine ⟨h1, h2, h3, ?_, ?_⟩
    · simp [jitterMeasure]
      omega
    · simp only [jitterMeasure, List.length_append, List.length_singleton]
      cases hp : j.phase <;> simp [NibblePhase.flip, hp] at h5 ⊢ <;> omega

theorem jitterSampling_counts (req : Option Byte) (d : JitterDraw) {j : TimerJitter} (h : j.Counts) :
    (jitterSampling req d j).Counts := by
  have hc : (jitterCaller req j).Counts := h
  have hf : ∀ (l : List Nat) (k : TimerJitter), k.Counts → (l.foldl jitterWake k).Counts := by
    intro l
    induction l with
    | nil => exact fun _ h => h
    | cons t l ih => exact fun k hk => ih _ (jitterWake_counts hk t)
  exact hf d.wakes _ hc

/-- A wake leaves the caller alone: only a dropped request or the release loses it. -/
theorem jitterWakes_caller (l : List Nat) (j : TimerJitter) : (l.foldl jitterWake j).caller = j.caller := by
  induction l generalizing j with
  | nil => rfl
  | cons t l ih => rw [List.foldl_cons, ih]; unfold jitterWake; split <;> rfl

/-- No edge takes the timer-jitter provider out of its two states. -/
theorem jitterNext_consistent (req : Option Byte) (d : JitterDraw) {j : TimerJitter} (hj : j.Consistent) :
    (jitterNext req d j).Consistent := by
  have key : ∀ k : TimerJitter, k.Counts →
      (if (jitterSampling req d k).finished then jitterRelease (jitterSampling req d k)
        else jitterSampling req d k).Consistent := by
    intro k hk
    obtain ⟨a, b, c, e, f⟩ := jitterSampling_counts req d hk
    by_cases h0 : (jitterSampling req d k).remaining = 0
    · simp [TimerJitter.finished, a, h0, TimerJitter.Consistent, jitterRelease]
    · simp only [TimerJitter.finished, a, h0, decide_true, decide_false, Bool.and_false, Bool.false_eq_true, if_false,
        TimerJitter.Consistent]
      exact ⟨b, c, by omega, e, f⟩
  unfold jitterNext jitterRun jitterTake
  cases hm : j.mode with
  | idle =>
    cases req with
    | none => simpa [hm, TimerJitter.finished] using hj
    | some p => exact key _ ⟨rfl, rfl, rfl, rfl, by simp [jitterStart]⟩
  | sampling =>
    simp only [TimerJitter.Consistent, hm] at hj
    obtain ⟨h1, h2, h3, h4, h5⟩ := hj
    simp only [hm]
    exact key j ⟨hm, h1, h2, h4, h5⟩

theorem State.jitterNext_consistent (s : State) (e : Edge) (h : s.jitter.Consistent) :
    (s.jitterNext e).Consistent := by
  unfold State.jitterNext
  split
  · exact ⟨rfl, rfl, rfl⟩
  · exact Machine.jitterNext_consistent _ _ h

/-- While the block uses the cipher unit, its key changes only by the block's own LOADKEY. -/
theorem State.cipherNext_key (s : State) (d : CipherDraw) (hu : s.usesCipher = true) (hk : s.fsm ≠ .getKey) :
    (s.cipherNext d).key = s.cipher.key := by
  unfold State.cipherNext State.cipReq
  cases hf : s.fsm <;> simp_all [State.usesCipher]
  split <;> rfl

/-! ### The output bytes -/

theorem State.writeBytes_outBase (s : State) (v : Bytes16) (n : Nat) : (s.writeBytes v n).outBase = s.outBase := by
  rw [State.writeBytes_frame]

/-- Every byte of the host's memory after the first `n` output bytes. -/
theorem State.writeBytes_read (s : State) (v : Bytes16) (n : Nat) (hn : n ≤ 16) (x : Nat) :
    (s.writeBytes v n).hostMem.read x =
      if s.outBase ≤ x ∧ x < s.outBase + n then some (byteAt v (x - s.outBase)) else s.hostMem.read x := by
  induction n with
  | zero => simp [State.writeBytes]
  | succ n ih =>
    have ih := ih (by omega)
    have hb : (BitVec.ofNat 8 n).toNat = n := by simp; omega
    simp only [State.writeBytes, State.writeOut_hostMem, Memory.read_write, ih, State.outAddr,
      State.writeBytes_outBase, hb]
    by_cases h : x = s.outBase + n
    · subst h; simp
    · have hiff : (s.outBase ≤ x ∧ x < s.outBase + n) ↔ (s.outBase ≤ x ∧ x < s.outBase + (n + 1)) := by omega
      rw [if_neg h]
      simp [hiff]

/-! ### The reference semantics of a GET -/

/-- The registered sources from round `i` on. -/
theorem State.registered_drop {s : State} (hl : s.count.toNat ≤ s.src.length) {i : Nat} (h : i < s.count.toNat) :
    s.registered.drop i = s.srcAt i :: s.registered.drop (i + 1) := by
  unfold State.registered State.srcAt
  rw [List.drop_eq_getElem_cons (by simp; omega)]
  simp [List.getD_eq_getElem?_getD, List.getElem?_eq_getElem (show i < s.src.length by omega)]

/-- The loop depends on the configuration alone. -/
theorem State.refRounds_congr {s t : State} {a : Answers} (h : s.cfg = t.cfg) (ps : List Byte) (i : Nat)
    (acc : Bytes16) : s.refRounds a ps i acc = t.refRounds a ps i acc := by
  have h1 : ∀ p, s.connected p = t.connected p := fun p => by simp [State.connected, h]
  have h2 : ∀ i p, s.refSample a i p = t.refSample a i p := fun i p => by unfold State.refSample; rw [h1]
  have h3 : ∀ x, s.abortsOn x = t.abortsOn x := fun x => by simp [State.abortsOn, h]
  induction ps generalizing i acc with
  | nil => rfl
  | cons p ps ih => rw [State.refRounds, State.refRounds, h2, h3, ih]

/-- So do the requests it makes. -/
theorem State.refRequests_congr {s t : State} {a : Answers} (h : s.cfg = t.cfg) (ps : List Byte) (i : Nat)
    (acc : Bytes16) : s.refRequests a ps i acc = t.refRequests a ps i acc := by
  have h1 : ∀ p, s.connected p = t.connected p := fun p => by simp [State.connected, h]
  have h2 : ∀ i p, s.refSample a i p = t.refSample a i p := fun i p => by unfold State.refSample; rw [h1]
  have h3 : ∀ x, s.abortsOn x = t.abortsOn x := fun x => by simp [State.abortsOn, h]
  induction ps generalizing i acc with
  | nil => rfl
  | cons p ps ih => rw [State.refRequests, State.refRequests, h1, h2, h3, ih]

end Sys2Proof.Machine
end

