-- ==== Sys2Proof/Tests/Slice0.lean ====
section
/-! SUPPORT. The model's own tests, each about one step or one word, with its source in spec/; and for every
statement that has hypotheses a witness that meets them. -/

namespace Sys2Proof.Tests.Slice0
open Sys2Proof.Machine

/-! ### States and edges for the tests -/

/-- The sample pattern `F` of spec/95_test_vectors.md. -/
def patF : Bytes16 :=
  #v[0x00, 0x11, 0x22, 0x33, 0x44, 0x55, 0x66, 0x77, 0x88, 0x99, 0xaa, 0xbb, 0xcc, 0xdd, 0xee, 0xff]

/-- One port, with the stub `F` behind it. -/
def stubConfig : Config := { Config.reference with wiring := [.stub patF] }

/-- `COUNT` entries registered: `SRC` holds `src`. -/
def withSources (src : List Byte) (count : Byte) (s : State) : State := { s with src := src, count := count }

/-- In `IDLE` with port 0 registered once, the stub `F` behind it. -/
def idleOne : State := withSources [0, 0, 0] 1 (State.powerOn stubConfig)

/-- In the state `f` of a GET of 16 bytes over that source, the key loaded. -/
def busyOne (f : Fsm) : State :=
  { idleOne with fsm := f, len := 16, cipher := { key := some keyRom, lastBlock := none } }

/-- With this edge next. -/
def edgeNext (e : Edge) (s : State) : State := { s with script := [e] }

/-- An edge at which the cipher answers with success. -/
def servedEdge : Edge :=
  { Edge.quiet with cipher := { answers := true, ok := true, data := zero16, other := none } }

/-- An edge of hardware reset. -/
def rstEdge : Edge := { Edge.quiet with rst := true }

/-- Inputs with no reset, no command and these answers. -/
def answersOf (src : Option SrcAnswer) (cip : Option CipherAnswer) (ready : Bool) : Inputs where
  rst      := false
  cmd      := none
  rspReady := ready
  src      := fun _ => src
  cip      := cip

/-- One thing about the next state. -/
def after {α : Type} (o : Host.Outcome State Fault Refusal) (f : State → α) : Option α :=
  match o with
  | .next t => some (f t)
  | .fault _ => none
  | .refused _ => none

/-- Agents for a witness: every answer a success. -/
def allOk : Answers where
  keyOk   := true
  sample  := fun _ => ⟨16, patF⟩
  encrypt := fun _ b => ⟨true, b⟩

/-- The reset value of `RSP` is a legal response. -/
theorem rsp_zero_legal : ResponseLegal 0 := .inl ⟨0, by decide, by decide⟩

/-- The invariant of a state whose parts are concrete. -/
theorem inv_of {s : State} (config : s.cfg.wellFormed = true) (entries : s.src.length = s.cfg.maxNumSources)
    (countBound : s.count.toNat ≤ s.cfg.maxNumSources)
    (unused : ∀ i < s.cfg.maxNumSources, s.count.toNat ≤ i → s.srcAt i = 0)
    (valid : s.rspv = true ↔ s.fsm = .respond) (rsp : ResponseLegal s.rsp) (mem : s.hostMem = []) (phase : s.PhaseInv)
    (jitter : s.jitter = TimerJitter.atRest) : s.Inv where
  config := config
  entries := entries
  countBound := countBound
  unusedZero := fun i hi => by
    rcases Nat.lt_or_ge i s.cfg.maxNumSources with h | h
    · exact unused i h hi
    · simp [State.srcAt, List.getD_eq_getElem?_getD, List.getElem?_eq_none (entries ▸ h)]
  responseValid := valid
  responseLegal := rsp
  hostMemWf := by rw [mem]; exact List.Pairwise.nil
  phase := phase
  jitterOk := by rw [jitter]; exact ⟨rfl, rfl, rfl⟩

theorem reset_inv : State.reset.Inv :=
  inv_of (by decide) (by decide) (by decide) (by decide) (by decide) rsp_zero_legal rfl ⟨rfl, rfl, rfl, rfl, rfl⟩ rfl

theorem idleOne_inv : idleOne.Inv :=
  inv_of (by decide) (by decide) (by decide) (by decide) (by decide) rsp_zero_legal rfl ⟨rfl, rfl, rfl, rfl, rfl⟩ rfl

theorem busyOne_enc_inv : (busyOne .getEnc).Inv :=
  inv_of (by decide) (by decide) (by decide) (by decide) (by decide) rsp_zero_legal rfl ⟨by decide, rfl, by decide, rfl⟩ rfl

/-! ### Decoding: words of spec/95_test_vectors.md L2.1, OP then RSV then ARG -/

theorem test_decode_init : decode 0b0001000000000000 = .command .init := by decide
theorem test_decode_add : decode 0b0010000011111111 = .command (.add 255) := by decide
theorem test_decode_reset : decode 0b0011000000000000 = .command .reset := by decide
theorem test_decode_get : decode 0b0100000000010000 = .command (.get 16) := by decide
theorem test_decode_reserved_op :
    decode 0x0000 = .illegal .reservedOp ∧ decode 0x5000 = .illegal .reservedOp ∧
    decode 0xFFFF = .illegal .reservedField := by decide
theorem test_decode_reserved_field :
    decode 0x1100 = .illegal .reservedField ∧ decode 0x2100 = .illegal .reservedField ∧
    decode 0x4F10 = .illegal .reservedField := by decide
theorem test_decode_operand_not_zero :
    decode 0x1001 = .illegal .operandNotZero ∧ decode 0x3001 = .illegal .operandNotZero := by decide
theorem test_encode : encode .init = 0x1000 ∧ encode (.add 2) = 0x2002 ∧ encode .reset = 0x3000 ∧
    encode (.get 255) = 0x40FF := by decide
theorem test_decode_table_word :
    decodeTableWord 16 0x2005 = some (.add 5) ∧ decodeTableWord 16 0x1001 = none := by decide

/-! ### Well-formedness: an ill-formed term for each check (R5, R7, R8, R9) -/

theorem test_wf_reference : Config.reference.wellFormed = true := by decide
theorem test_wf_max_sources :
    { Config.reference with maxNumSources := 0 }.wellFormed = false ∧
    { Config.reference with maxNumSources := 128 }.wellFormed = false := by decide
theorem test_wf_max_bytes :
    { Config.reference with maxBytesRequest := 0 }.wellFormed = false ∧
    { Config.reference with maxBytesRequest := 17 }.wellFormed = false := by decide
theorem test_wf_ports :
    { Config.reference with wiring := [] }.wellFormed = false ∧
    { Config.reference with wiring := List.replicate 257 .hwRng }.wellFormed = false := by decide +kernel
theorem test_wf_auto :
    { Config.reference with autoSources := List.replicate 256 0 }.wellFormed = false := by decide +kernel

/-! ### The commands -/

/-- L2.3 A1. -/
theorem test_add_appends :
    after (exec (.add 2) State.reset) (fun t => (t.src, t.count, t.rsp, t.fsm)) =
      some ([2, 0, 0], 1, 0x0000, .respond) := by decide
/-- L2.3 A3. -/
theorem test_add_full :
    after (exec (.add 0) (withSources [2, 2, 2] 3 State.reset)) (fun t => (t.src, t.count, t.rsp)) =
      some ([2, 2, 2], 3, 0x03FE) := by decide
/-- L2.4 R1. -/
theorem test_reset_empties :
    after (exec .reset (withSources [0, 1, 2] 3 State.reset)) (fun t => (t.src, t.count, t.rsp)) =
      some ([0, 0, 0], 0, 0x0000) := by decide
/-- R121: INIT goes to INIT_ADD at entry 0, and answers nothing yet. -/
theorem test_init_starts :
    after (exec .init State.reset) (fun t => (t.fsm, t.idx, t.rspv)) = some (.initAdd, 0, false) := by decide
/-- L2.5 N2, second entry: the full registry rejects port 1, which is not fatal. -/
theorem test_init_rejected_entry :
    stepInitAdd { withSources [0, 1, 0] 3 State.reset with fsm := .initAdd, idx := 1 } =
      { withSources [0, 1, 0] 3 State.reset with fsm := .initAdd, idx := 2 } := by decide
/-- L2.6 K5 and K6: both checks fail, and `CHECK_ORDER` picks the one reported. -/
theorem test_get_check_order :
    after (exec (.get 17) State.reset) State.rsp = some 0x01FD ∧
    after (exec (.get 17) { State.reset with cfg := { Config.reference with checkOrder := .nosrcFirst } })
      State.rsp = some 0x02FF := by decide
/-- L2.6 K1: the checks pass. -/
theorem test_get_starts :
    after (exec (.get 16) idleOne) (fun t => (t.fsm, t.len, t.rspv)) = some (.getKey, 16, false) := by decide
/-- R100, R120: the first step after reset runs ADD 5 from the command port. -/
theorem test_fetch_word_add :
    after (step (State.reset.withFetchWord 16 0x2005)) (fun t => (t.src, t.count, t.rsp)) =
      some ([5, 0, 0], 1, 0x0000) := by decide

/-! ### The transitions -/

/-- L2.8 S1 and S3: 15 and 17 bytes are both failures under ABORT. -/
theorem test_sample_status :
    (stepBusy (answersOf (some ⟨15, patF⟩) none false) (busyOne .getSample)).rsp = 0x06FD ∧
    (stepBusy (answersOf (some ⟨17, patF⟩) none false) (busyOne .getSample)).rsp = 0x06FD ∧
    (stepBusy (answersOf (some ⟨16, patF⟩) none false) (busyOne .getSample)).fsm = .getXor := by decide
/-- L2.8 S4: port 255 has no provider. -/
theorem test_sample_unconnected :
    (stepBusy (answersOf none none false) (withSources [255, 0, 0] 1 (busyOne .getSample))).rsp = 0x06FD := by decide
/-- L2.9 E3: a failed encryption leaves `ACC`. -/
theorem test_encrypt_fails :
    (stepBusy (answersOf none (some ⟨false, zero16⟩) false) { busyOne .getEnc with acc := patF }).rsp = 0x05FD ∧
    (stepBusy (answersOf none (some ⟨false, zero16⟩) false) { busyOne .getEnc with acc := patF }).acc = patF := by
  decide
/-- R130: after the last source comes the output. -/
theorem test_encrypt_last :
    (stepBusy (answersOf none (some ⟨true, patF⟩) false) (busyOne .getEnc)).fsm = .getOut ∧
    (stepBusy (answersOf none (some ⟨true, patF⟩) false) { busyOne .getEnc with count := 2 }).fsm = .getSample := by
  decide
/-- R132: byte 5 of the accumulator, and the one after the last. -/
theorem test_output_byte :
    (stepGetOut { busyOne .getOut with acc := patF, oidx := 5, outBase := 100 }).hostMem = [(105, 0x55)] ∧
    (stepGetOut { busyOne .getOut with acc := patF, oidx := 16 }).rsp = 0x0010 := by decide
/-- L2.10. -/
theorem test_status_word :
    (withSources [0, 0, 0] 2 (busyOne .getSample)).statusWord = 0x0207 ∧
    (withSources [0, 0, 0] 3 (busyOne .getOut)).statusWord = 0x030D ∧
    { State.reset with fsm := .respond }.statusWord = 0x0011 ∧
    (withSources [0, 0, 0] 1 { State.reset with fsm := .initAdd }).statusWord = 0x0103 := by decide
/-- R53: byte 0 is at the bottom of the bus and byte 15 at the top. -/
theorem test_bus : busOf patF = 0xffeeddccbbaa99887766554433221100 := by decide +kernel

/-! ### The cipher (spec/43_block_cipher.md R189, spec/95_test_vectors.md) -/

/-- R189: the round key of round 1 under `KEY`. -/
theorem test_aes_round_key :
    aesRoundKey keyRom 1 = #v[0xd6, 0xaa, 0x74, 0xfd, 0xd2, 0xaf, 0x72, 0xfa, 0xda, 0xa6, 0x78, 0xf1, 0xd6, 0xab,
      0x76, 0xfe] := by decide +kernel
/-- The single-block value of `Z`. -/
theorem test_aes_zero_block :
    aesEncrypt keyRom zero16 = #v[0xc6, 0xa1, 0x3b, 0x37, 0x87, 0x8f, 0x5b, 0x82, 0x6f, 0x4f, 0x81, 0x62, 0xa1,
      0xc8, 0xd8, 0x79] := by decide +kernel

/-! ### The agents -/

/-- R167: a wake reads the low nibble of the counter (0x2A gives 0xA) and restarts it. -/
theorem test_jitter_wake :
    jitterNext (some 2) { wakes := [42], ticks := 5, endsAtReset := false } (jitterStart 2) =
      { jitterStart 2 with nibbles := [0xA], remaining := 31, phase := .second, counter := 5 } := by decide
/-- R166, R168: 32 measurements, one nibble of a byte each, then the caller is released. -/
theorem test_jitter_measurements :
    jitterAnswers (some 2) { wakes := List.replicate 31 3, ticks := 0, endsAtReset := false } TimerJitter.atRest = none ∧
    jitterAnswers (some 2) { wakes := List.replicate 32 3, ticks := 0, endsAtReset := false } TimerJitter.atRest =
      some 2 := by decide

/-! ### The host's memory -/

/-- A byte written below another is listed first, and a rewrite replaces. -/
theorem test_memory_write :
    Memory.write (Memory.write (Memory.write [] 7 0x11) 3 0x22) 7 0x33 = [(3, 0x22), (7, 0x33)] := by decide

/-! ### Witnesses: for each statement with hypotheses, a state and operands that meet them -/

theorem witness_DecodeEncodeRoundTrip : Instr.wellFormed (.get 255) = true ∧ Instr.wellFormed .init = true := by decide
theorem witness_EncodeDecodeRoundTrip : decode 0x20FF = .command (.add 255) := by decide
theorem witness_DecoderAgreesWithOpcodeMap :
    (∃ r ∈ opcodeTable, r.matches 0x20FF = true) ∧ decode 0x20FF = .command (.add 255) := by decide
theorem witness_OneRequestInFlight :
    (busyOne .getSample).srcReq 0 = true ∧ (0#8).toNat < (busyOne .getSample).cfg.numSourcePorts ∧
    (busyOne .getSample).request = some (.sample 0) ∧ (busyOne .getKey).cipReq = some (.loadKey keyRom) ∧
    (busyOne .getEnc).cipReq = some (.encrypt zero16) := by decide +kernel
theorem witness_StepRunsDecodedCommand :
    (edgeNext (commandEdge 0x4010) idleOne).fsm = .idle ∧
    (edgeNext (commandEdge 0x4010) idleOne).nextEdge.rst = false ∧
    (edgeNext (commandEdge 0x4010) idleOne).nextEdge.cmd = some 0x4010 ∧
    decode 0x4010 = .command (.get 16) := by decide
theorem witness_IllegalCommandAnsweredOnly :
    (edgeNext (commandEdge 0x5000) idleOne).fsm = .idle ∧
    (edgeNext (commandEdge 0x5000) idleOne).nextEdge.rst = false ∧
    (edgeNext (commandEdge 0x5000) idleOne).nextEdge.cmd = some 0x5000 ∧
    decode 0x5000 = .illegal .reservedOp := by decide
theorem witness_IdleWaitsForCommand :
    (edgeNext Edge.quiet idleOne).fsm = .idle ∧ (edgeNext Edge.quiet idleOne).nextEdge.rst = false ∧
    (edgeNext Edge.quiet idleOne).nextEdge.cmd = none := by decide
theorem witness_BusyStepIsOneTransition :
    (edgeNext Edge.quiet (busyOne .getKey)).fsm ≠ .idle ∧
    (edgeNext Edge.quiet (busyOne .getKey)).nextEdge.rst = false := by decide
theorem witness_CommandWhileBusyNotTaken : (busyOne .getOut).fsm ≠ .idle := by decide
/-- The last entry there is room for, and the first there is none for. -/
theorem witness_AddAppendsOrAnswersFull :
    (withSources [2, 2, 0] 2 State.reset).count.toNat < (withSources [2, 2, 0] 2 State.reset).cfg.maxNumSources ∧
    (withSources [2, 2, 2] 3 State.reset).cfg.maxNumSources ≤
      (withSources [2, 2, 2] 3 State.reset).count.toNat := by decide
theorem witness_RegistryCapacity :
    State.reset.Inv ∧ State.reset.count = 0 ∧ [0, 1, 2].length = State.reset.cfg.maxNumSources ∧
    1 ≤ [0, 1, 2].length := ⟨reset_inv, rfl, rfl, by decide⟩
theorem witness_GetAfterResetAnswersNoSource :
    (∃ t, exec .reset State.reset = .next t) ∧ State.reset.count = 0 ∧
    (16#8).toNat ≤ State.reset.cfg.maxBytesRequest ∧
    { Config.reference with checkOrder := .nosrcFirst }.checkOrder = .nosrcFirst := ⟨⟨_, rfl⟩, rfl, by decide, rfl⟩
theorem witness_InitRegistersAutoSources :
    State.reset.Inv ∧ State.reset.fsm = .idle ∧
    (List.replicate 3 (answersOf none none false)).length = State.reset.cfg.autoSources.length + 1 :=
  ⟨reset_inv, rfl, rfl⟩
/-- With two entries to register, and with none. -/
theorem witness_InitNoSourceExactlyWhenNothingRegistered :
    (State.reset.Inv ∧ State.reset.fsm = .idle ∧ (∃ t, exec .init State.reset = .next t) ∧
      (List.replicate 3 (answersOf none none false)).length = State.reset.cfg.autoSources.length + 1) ∧
    ((State.powerOn { Config.reference with autoSources := [] }).Inv ∧
      (State.powerOn { Config.reference with autoSources := [] }).count = 0 ∧
      (State.powerOn { Config.reference with autoSources := [] }).cfg.autoSources = []) :=
  ⟨⟨reset_inv, rfl, ⟨_, rfl⟩, rfl⟩,
    inv_of (by decide) (by decide) (by decide) (by decide) (by decide) rsp_zero_legal rfl ⟨rfl, rfl, rfl, rfl, rfl⟩ rfl, rfl, rfl⟩
/-- A length one too large in each order of the checks, and the largest legal one. -/
theorem witness_GetEarlyFailure :
    (State.reset.cfg.maxBytesRequest < (17#8).toNat ∧ State.reset.cfg.checkOrder = .lenFirst) ∧
    (idleOne.cfg.maxBytesRequest < (255#8).toNat ∧ idleOne.count ≠ 0) ∧
    (State.reset.count = 0 ∧ (16#8).toNat ≤ State.reset.cfg.maxBytesRequest) := by decide
/-- The largest legal length and the smallest. -/
theorem witness_GetAccepted :
    (16#8).toNat ≤ idleOne.cfg.maxBytesRequest ∧ (0#8).toNat ≤ idleOne.cfg.maxBytesRequest ∧ idleOne.count ≠ 0 := by
  decide
theorem witness_GetFollowsReference :
    idleOne.Inv ∧ idleOne.fsm = .idle ∧ (16#8).toNat ≤ idleOne.cfg.maxBytesRequest ∧ idleOne.count ≠ 0 :=
  ⟨idleOne_inv, by decide, by decide, by decide⟩
/-- A GET of no byte reaches its response: the answer to LOADKEY, one round, the end of the output and the wipe. -/
theorem witness_GetFollowsReference_run :
    ∃ t log, GetRun allOk (idleOne.startGet 0) t log ∧ t.fsm = .respond := by
  let i : Inputs := answersOf (some ⟨16, patF⟩) (some ⟨true, patF⟩) false
  have h0 : GetRun allOk (idleOne.startGet 0) (idleOne.startGet 0) [] := .start _
  have h1 := h0.edge (i := i) (by decide) (by decide)
    ⟨rfl, fun h => absurd h (by decide), fun _ => .inr ⟨patF, rfl⟩, fun h => absurd h (by decide)⟩
  have h2 := h1.edge (i := i) (by decide) (by decide)
    ⟨rfl, fun _ => .inr rfl, fun h => absurd h (by decide), fun h => absurd h (by decide)⟩
  have h3 := h2.edge (i := i) (by decide) (by decide)
    ⟨rfl, fun h => absurd h (by decide), fun h => absurd h (by decide), fun h => absurd h (by decide)⟩
  have h4 := h3.edge (i := i) (by decide) (by decide)
    ⟨rfl, fun h => absurd h (by decide), fun h => absurd h (by decide), fun _ => .inr (by decide +kernel)⟩
  have h5 := h4.edge (i := i) (by decide) (by decide)
    ⟨rfl, fun h => absurd h (by decide), fun h => absurd h (by decide), fun h => absurd h (by decide)⟩
  have h6 := h5.edge (i := i) (by decide) (by decide)
    ⟨rfl, fun h => absurd h (by decide), fun h => absurd h (by decide), fun h => absurd h (by decide)⟩
  exact ⟨_, _, h6, by decide⟩
/-- A GET of 16 bytes over one stub: 22 edges after the one that takes it. -/
theorem witness_StubGetWritesCascade :
    idleOne.Inv ∧ idleOne.fsm = .idle ∧ idleOne.AllStubs ∧ (16#8).toNat ≤ idleOne.cfg.maxBytesRequest ∧
    idleOne.count ≠ 0 ∧
    { idleOne with script := commandEdge 0x4010 :: List.replicate 22 servedEdge }.script =
      commandEdge 0x4010 :: List.replicate 22 servedEdge ∧
    (commandEdge 0x4010).cmd = some (encode (.get 16)) ∧
    3 + 3 * idleOne.count.toNat + (16#8).toNat ≤ (List.replicate 22 servedEdge).length ∧
    (commandEdge 0x4010).rst = false ∧
    (∀ f ∈ (List.replicate 22 servedEdge).take (3 + 3 * idleOne.count.toNat + (16#8).toNat), edgeServes f) :=
  ⟨idleOne_inv, by decide, fun p hp => by
      have : p = 0 := by simpa [State.registered, idleOne, withSources] using hp
      subst this; decide, by decide, by decide, rfl, by decide, by decide, by decide, fun f hf => by
      have : f = servedEdge := List.eq_of_mem_replicate (List.mem_of_mem_take hf)
      subst this; exact ⟨rfl, rfl, rfl⟩⟩
theorem witness_KeyLoadAnswer :
    (busyOne .getKey).fsm = .getKey ∧ (answersOf none none false).cip = none ∧
    (answersOf none (some ⟨true, zero16⟩) false).cip = some ⟨true, zero16⟩ ∧
    (answersOf none (some ⟨false, zero16⟩) false).cip = some ⟨false, zero16⟩ := by decide
/-- Statuses 15 and 17 about the one that is a success. -/
theorem witness_SampleAnswerTaken :
    (busyOne .getSample).fsm = .getSample ∧ (busyOne .getSample).connected (busyOne .getSample).roundPort = true ∧
    (busyOne .getSample).cfg.srcFailPolicy = .abort ∧ s8 15 ≠ 16 ∧ s8 17 ≠ 16 ∧ s8 0xFB ≠ 16 ∧ s8 16 = 16 ∧
    (answersOf (some ⟨15, patF⟩) none false).src (busyOne .getSample).roundPort = some ⟨15, patF⟩ := by decide
/-- Port 3 of three, and the reference policy. -/
theorem witness_UnconnectedPortAnswersAtOnce :
    (withSources [3, 0, 0] 1 { State.reset with fsm := .getSample }).fsm = .getSample ∧
    (withSources [3, 0, 0] 1 { State.reset with fsm := .getSample }).cfg.numSourcePorts ≤
      (withSources [3, 0, 0] 1 { State.reset with fsm := .getSample }).roundPort.toNat := by decide
/-- The edges of each clause: statuses 1, 16, 0, 255 (negative) and 17. -/
theorem witness_DefinedBytesOfAnswer :
    (0 ≤ s8 1 ∧ s8 1 ≤ 16 ∧ 0 < (1 : Byte).toNat) ∧ (0 ≤ s8 16 ∧ s8 16 ≤ 16 ∧ 15 < (16 : Byte).toNat) ∧
    (0 ≤ s8 0 ∧ s8 0 ≤ 16 ∧ (0 : Byte).toNat ≤ 0) ∧ s8 255 < 0 ∧ 16 < s8 17 := by decide
theorem witness_XorFoldsSample : (busyOne .getXor).fsm = .getXor := by decide
/-- Two sources with one to come, and the last one. -/
theorem witness_EncryptAnswer :
    (busyOne .getEnc).fsm = .getEnc ∧ (answersOf none none false).cip = none ∧
    (answersOf none (some ⟨true, patF⟩) false).cip = some ⟨true, patF⟩ ∧
    (answersOf none (some ⟨false, patF⟩) false).cip = some ⟨false, patF⟩ ∧
    (withSources [0, 0, 0] 2 (busyOne .getEnc)).idx.toNat + 1 < (withSources [0, 0, 0] 2 (busyOne .getEnc)).count.toNat ∧
    (busyOne .getEnc).count.toNat ≤ (busyOne .getEnc).idx.toNat + 1 := by decide
/-- The last byte of 16, and the end. -/
theorem witness_OutputByteWritten :
    (busyOne .getOut).fsm = .getOut ∧
    { busyOne .getOut with oidx := 15 }.oidx.toNat < { busyOne .getOut with oidx := 15 }.len.toNat ∧
    { busyOne .getOut with oidx := 16 }.len.toNat ≤ { busyOne .getOut with oidx := 16 }.oidx.toNat := by decide
theorem witness_WipeClearsDatapath :
    (busyOne .wipe).fsm = .wipe ∧ (busyOne .getOut).fsm ∈ [Fsm.getKey, .getSample, .getXor, .getEnc, .getOut] := by
  decide
theorem witness_ResponseHandedOver :
    (busyOne .respond).fsm = .respond ∧ (answersOf none none true).rspReady = true ∧
    (answersOf none none false).rspReady = false := by decide
/-- A source, a cipher and a host that give nothing, at two edges. -/
theorem witness_MissingAnswerHoldsForever :
    (∀ i ∈ [answersOf none none false, answersOf none none false], i.rst = false) ∧
    ((busyOne .getSample).fsm = .getSample ∧
      (busyOne .getSample).connected (busyOne .getSample).roundPort = true ∧
      ∀ i ∈ [answersOf none none false, answersOf none none false], i.src (busyOne .getSample).roundPort = none) ∧
    ((busyOne .getKey).fsm = .getKey ∧ ∀ i ∈ [answersOf none none false, answersOf none none false], i.cip = none) ∧
    ((busyOne .respond).fsm = .respond ∧
      ∀ i ∈ [answersOf none none false, answersOf none none false], i.rspReady = false) := by
  refine ⟨by simp [answersOf], ⟨by decide, by decide, by simp [answersOf]⟩, ⟨by decide, by simp [answersOf]⟩,
    by decide, by simp [answersOf]⟩
/-- In `GET_KEY` an answer of a source is unasked. -/
theorem witness_UnaskedAnswersIgnored :
    (answersOf (some ⟨16, patF⟩) none false).rst = (answersOf none none false).rst ∧
    (answersOf (some ⟨16, patF⟩) none false).cmd = (answersOf none none false).cmd ∧
    (answersOf (some ⟨16, patF⟩) none false).rspReady = (answersOf none none false).rspReady ∧
    (busyOne .getKey).fsm ≠ .getSample ∧
    (answersOf (some ⟨16, patF⟩) none false).cip = (answersOf none none false).cip := by decide
theorem witness_CommandFrames :
    (∃ t, exec .init idleOne = .next t) ∧ (∃ t, exec (.add 1) idleOne = .next t) ∧
    (∃ t, exec .reset idleOne = .next t) ∧ (∃ t, exec (.get 16) idleOne = .next t) :=
  ⟨⟨_, rfl⟩, ⟨_, rfl⟩, ⟨_, rfl⟩, ⟨_, rfl⟩⟩
/-- With the measurement going on and with its end. -/
theorem witness_HardwareResetAtAnyTime :
    (edgeNext rstEdge (busyOne .getEnc)).nextEdge.rst = true ∧ rstEdge.jitter.endsAtReset = false ∧
    (edgeNext { rstEdge with jitter := ⟨[], 0, true⟩ } (busyOne .getSample)).nextEdge.rst = true := by decide
theorem witness_ResetInGetOutLeavesAnyValue :
    (edgeNext rstEdge (busyOne .getOut)).nextEdge.rst = true ∧ (edgeNext rstEdge (busyOne .getOut)).fsm = .getOut ∧
    (∃ t, step (edgeNext rstEdge (busyOne .getOut)) = .next t) ∧
    15 < (edgeNext rstEdge (busyOne .getOut)).cfg.maxBytesRequest := ⟨rfl, rfl, ⟨_, rfl⟩, by decide⟩
theorem witness_InvariantAtReset : stubConfig.wellFormed = true := by decide
theorem witness_StepKeepsInvariant :
    (busyOne .getEnc).Inv ∧ ∃ t, step (edgeNext servedEdge (busyOne .getEnc)) = .next t := ⟨busyOne_enc_inv, ⟨_, rfl⟩⟩
theorem witness_RegistryWrittenOnlyByItsCommands :
    ∃ t, step (edgeNext (commandEdge 0x2001) idleOne) = .next t ∧
      (t.src ≠ (edgeNext (commandEdge 0x2001) idleOne).src ∨
        t.count ≠ (edgeNext (commandEdge 0x2001) idleOne).count) := ⟨_, rfl, .inl (by decide)⟩
theorem witness_OnlyOutputWritesHostMemory :
    (∃ t, step (edgeNext Edge.quiet (busyOne .getOut)) = .next t ∧
      t.hostMem.read 0 ≠ (edgeNext Edge.quiet (busyOne .getOut)).hostMem.read 0) ∧
    (edgeNext Edge.quiet (busyOne .getOut)).nextEdge.rst = false := ⟨⟨_, rfl, by decide⟩, rfl⟩
theorem witness_ResponseAfterWritesAndWipe :
    ({ busyOne .wipe with script := [Edge.quiet] }.Inv) ∧
    ∃ t, step { busyOne .wipe with script := [Edge.quiet] } = .next t ∧
      { busyOne .wipe with script := [Edge.quiet] }.rspv = false ∧ t.rspv = true :=
  ⟨inv_of (by decide) (by decide) (by decide) (by decide) (by decide) rsp_zero_legal rfl trivial rfl, _, rfl, rfl, rfl⟩
theorem witness_HostMemoryNeverRead : ∃ t, step (edgeNext Edge.quiet (busyOne .getOut)) = .next t := ⟨_, rfl⟩
/-- A block that has run a GET before and one that has not. -/
theorem witness_NoPoolBetweenGets :
    idleOne.Inv ∧ { idleOne with rsp := 0x0010 }.Inv ∧ idleOne.fsm = .idle ∧ ({ idleOne with rsp := 0x0010 }.cfg = idleOne.cfg ∧ { idleOne with rsp := 0x0010 }.src = idleOne.src ∧
      { idleOne with rsp := 0x0010 }.count = idleOne.count ∧ { idleOne with rsp := 0x0010 }.fsm = .idle) :=
  ⟨idleOne_inv, inv_of (by decide) (by decide) (by decide) (by decide) (by decide) (.inl ⟨16, by decide, by decide⟩)
    rfl ⟨rfl, rfl, rfl, rfl, rfl⟩ rfl, rfl, rfl, rfl, rfl, rfl⟩
theorem witness_DeterminismUnderFixedSources :
    idleOne.Inv ∧ idleOne.fsm = .idle ∧ (0#8).toNat ≤ idleOne.cfg.maxBytesRequest ∧ idleOne.count ≠ 0 ∧
    ∃ t log, GetRun allOk (idleOne.startGet 0) t log ∧ t.fsm = .respond :=
  ⟨idleOne_inv, by decide, by decide, by decide, witness_GetFollowsReference_run⟩
theorem witness_JitterAnswersAtThirtySecondWake :
    TimerJitter.atRest.mode = .idle ∧
    (([⟨[5, 7], 1, false⟩, ⟨List.replicate 29 4, 0, false⟩] : List JitterDraw).map fun d => d.wakes.length).sum = 31 := by
  decide
/-- With the caller lost before, and at the edge at which port 2's request has dropped. -/
theorem witness_AbandonedMeasurementNotAnswered :
    ((jitterStart 2).mode = .sampling ∧ (jitterStart 2).caller = some 2 ∧ (none : Option Byte) ≠ some 2) ∧
    { jitterStart 2 with caller := none }.mode = .sampling ∧ { jitterStart 2 with caller := none }.caller = none :=
  ⟨⟨rfl, rfl, by decide⟩, rfl, rfl⟩
theorem witness_SuccessfulEncryptIsCipher :
    (busyOne .getEnc).Inv ∧ (busyOne .getEnc).fsm = .getEnc ∧ servedEdge.cipher.answers = true ∧
    servedEdge.cipher.ok = true := ⟨busyOne_enc_inv, rfl, rfl, rfl⟩
theorem witness_CipherIsInvertible :
    cascade .aes128 (fun _ => patF) [0] zero16 = cascade .aes128 (fun _ => patF) [0] zero16 := rfl

end Sys2Proof.Tests.Slice0
end

section
/-! The invariant of the machine: each operation of Sys2Proof/Machine/Ops.lean keeps it, hence each command and each
transition, hence each edge. -/

namespace Sys2Proof.Machine

/-! ### Legal responses (R76) -/

theorem responseLegal_error (k : ErrorKind) : ResponseLegal (errorWord k) := .inr ⟨k, rfl⟩

theorem responseLegal_success {c : Byte} (h : c.toNat ≤ 127) : ResponseLegal (responseWord c causeNone) :=
  .inl ⟨c, h, rfl⟩

theorem responseLegal_ok : ResponseLegal (responseWord codeOk causeNone) := responseLegal_success (by decide)

theorem responseLegal_zero : ResponseLegal 0 := .inl ⟨0, by decide, by decide⟩

/-! ### The registry (R20 to R23) -/

theorem State.srcAt_of_replicate {s : State} {n : Nat} (h : s.src = List.replicate n 0) (i : Nat) : s.srcAt i = 0 := by
  simp only [State.srcAt, h, List.getD_eq_getElem?_getD, List.getElem?_replicate]
  split <;> rfl

/-- An entry beyond the one that `add_entry` writes is as before. -/
theorem State.addEntry_srcAt_of_lt (s : State) (p : Byte) {i : Nat} (h : s.count.toNat < i) :
    (s.addEntry p).srcAt i = s.srcAt i := by
  unfold State.addEntry
  split
  · simp [State.srcAt, List.getD_eq_getElem?_getD, List.getElem?_set_ne (Nat.ne_of_lt h)]
  · rfl

/-! ### The clauses on the datapath in one state of the FSM (R27, R28, R33) -/

theorem State.Inv.datapathClear_respond {s : State} (h : s.Inv) (hf : s.fsm = .respond) : s.DatapathClear := by
  have hp := h.phase
  simpa only [State.PhaseInv, hf] using hp

theorem State.Inv.phase_initAdd {s : State} (h : s.Inv) (hf : s.fsm = .initAdd) :
    s.idx.toNat ≤ s.cfg.autoSources.length ∧ s.acc = zero16 ∧ s.raw = zero16 ∧ s.oidx = 0 ∧ s.len = 0 := by
  have hp := h.phase
  simpa only [State.PhaseInv, hf] using hp

theorem State.Inv.phase_getKey {s : State} (h : s.Inv) (hf : s.fsm = .getKey) :
    s.acc = zero16 ∧ s.raw = zero16 ∧ s.idx = 0 ∧ s.oidx = 0 ∧ 0 < s.count.toNat ∧
      s.len.toNat ≤ s.cfg.maxBytesRequest := by
  have hp := h.phase
  simpa only [State.PhaseInv, hf] using hp

theorem State.Inv.phase_round {s : State} (h : s.Inv)
    (hf : s.fsm = .getSample ∨ s.fsm = .getXor ∨ s.fsm = .getEnc) :
    s.idx.toNat < s.count.toNat ∧ s.oidx = 0 ∧ s.len.toNat ≤ s.cfg.maxBytesRequest ∧
      s.cipher.key = some s.key := by
  have hp := h.phase
  rcases hf with hf | hf | hf <;> simpa only [State.PhaseInv, hf] using hp

theorem State.Inv.phase_getOut {s : State} (h : s.Inv) (hf : s.fsm = .getOut) :
    s.idx = s.count ∧ s.oidx.toNat ≤ s.len.toNat ∧ s.len.toNat ≤ s.cfg.maxBytesRequest := by
  have hp := h.phase
  simpa only [State.PhaseInv, hf] using hp

/-! ### The operations -/

section
variable {s : State}

/-- A new response needs a clear datapath and a legal word. -/
theorem State.Inv.respond {code : Byte} {cause : BitVec 3} (h : s.Inv) (hd : s.DatapathClear)
    (hl : ResponseLegal (responseWord code cause)) : (s.respond code cause).Inv :=
  { h with responseValid := by simp, responseLegal := hl, phase := hd }

theorem State.Inv.respondError (h : s.Inv) (hd : s.DatapathClear) (k : ErrorKind) : (s.respondError k).Inv :=
  h.respond hd (responseLegal_error k)

/-- A recorded response needs a legal word, in a state where none is valid yet. -/
theorem State.Inv.finish {code : Byte} {cause : BitVec 3} (h : s.Inv) (hf : s.fsm ≠ .respond)
    (hl : ResponseLegal (responseWord code cause)) : (s.finish code cause).Inv :=
  { h with responseValid := by simp [h.rspv_eq_false hf], responseLegal := hl, phase := trivial }

theorem State.Inv.finishError (h : s.Inv) (hf : s.fsm ≠ .respond) (k : ErrorKind) : (s.finishError k).Inv :=
  h.finish hf (responseLegal_error k)

theorem State.Inv.wipe (h : s.Inv) : s.wipe.Inv :=
  { h with responseValid := by simp, phase := ⟨rfl, rfl, rfl, rfl, rfl⟩ }

theorem State.Inv.handOver (h : s.Inv) (hf : s.fsm = .respond) : s.handOver.Inv :=
  { h with responseValid := by simp, phase := h.datapathClear_respond hf }

theorem State.Inv.startGet {n : Byte} (h : s.Inv) (hf : s.fsm = .idle) (hc : s.getCheck n = none) :
    (s.startGet n).Inv := by
  obtain ⟨hn, hs⟩ := (s.getCheck_none_iff n).1 hc
  have hpos : 0 < s.count.toNat := Nat.pos_of_ne_zero fun h0 => hs (BitVec.eq_of_toNat_eq h0)
  exact { h with
    responseValid := by simp [h.rspv_eq_false (s := s) (by simp [hf])]
    phase := ⟨rfl, rfl, rfl, rfl, hpos, hn⟩ }

theorem State.Inv.clearRegistry (h : s.Inv) (hf : s.fsm = .idle) : s.clearRegistry.Inv :=
  { h with
    entries := List.length_replicate
    countBound := Nat.zero_le _
    unusedZero := fun i _ => State.srcAt_of_replicate rfl i
    phase := by
      have hd : s.clearRegistry.DatapathClear := h.datapathClear_idle hf
      simpa only [State.PhaseInv, State.clearRegistry_fsm, hf] using hd }

/-- `add_entry` where the datapath does not speak of `COUNT`: as a command is taken, and in `INIT_ADD`. -/
theorem State.Inv.addEntry (h : s.Inv) (hf : s.fsm = .idle ∨ s.fsm = .initAdd) (p : Byte) : (s.addEntry p).Inv := by
  cases hr : s.hasRoom with
  | false => rwa [s.addEntry_of_full p hr]
  | true =>
    have hroom := s.hasRoom_iff.1 hr
    have hcount := s.addEntry_count p (Config.bounds h.config).2.1
    rw [if_pos hr] at hcount
    exact {
      config := by simpa using h.config
      entries := by simpa [s.addEntry_length p] using h.entries
      countBound := by simp only [hcount, State.addEntry_cfg]; omega
      unusedZero := fun i hi => by
        rw [s.addEntry_srcAt_of_lt p (by omega)]
        exact h.unusedZero i (by omega)
      responseValid := by simpa using h.responseValid
      responseLegal := by simpa using h.responseLegal
      hostMemWf := by simpa using h.hostMemWf
      phase := by
        have hp := h.phase
        rcases hf with hf | hf <;> simpa [State.PhaseInv, State.DatapathClear, hf] using hp
      jitterOk := by simpa using h.jitterOk }

theorem State.Inv.writeOut (h : s.Inv) (j b : Byte) : (s.writeOut j b).Inv :=
  { h with hostMemWf := Memory.wf_write h.hostMemWf _ _ }

theorem State.Inv.hwReset (h : s.Inv) : s.hwReset.Inv :=
  { h with
    entries := List.length_replicate
    countBound := Nat.zero_le _
    unusedZero := fun i _ => State.srcAt_of_replicate rfl i
    responseValid := by simp
    responseLegal := responseLegal_zero
    phase := ⟨rfl, rfl, rfl, rfl, rfl⟩ }

/-! ### The commands as they are accepted -/

theorem exec_inv {c : Instr} {t : State} (h : s.Inv) (hf : s.fsm = .idle) (he : exec c s = .next t) : t.Inv := by
  have hd := h.datapathClear_idle hf
  have hv := h.rspv_eq_false (by simp [hf])
  rcases exec_cases he with ⟨-, rfl⟩ | ⟨p, -, ⟨-, rfl⟩ | ⟨-, rfl⟩⟩ | ⟨-, rfl⟩ | ⟨n, -, ⟨k, -, rfl⟩ | ⟨hc, rfl⟩⟩
  case inl =>
    obtain ⟨hacc, hraw, -, hoidx, hlen⟩ := hd
    exact { h with
      responseValid := by simp [hv]
      phase := ⟨Nat.zero_le _, hacc, hraw, hoidx, hlen⟩ }
  case inr.inl.inl =>
    exact (h.addEntry (.inl hf) p).respond (by simpa [State.DatapathClear] using hd) responseLegal_ok
  case inr.inl.inr => exact h.respondError hd _
  case inr.inr.inl => exact (h.clearRegistry hf).respond hd responseLegal_ok
  case inr.inr.inr.inl => exact h.respondError hd k
  case inr.inr.inr.inr => exact h.startGet hf hc

/-! ### The transitions -/

theorem stepInitAdd_inv (h : s.Inv) (hf : s.fsm = .initAdd) : (stepInitAdd s).Inv := by
  obtain ⟨hidx, hacc, hraw, hoidx, hlen⟩ := h.phase_initAdd hf
  obtain ⟨-, hmax, -, hauto⟩ := Config.bounds h.config
  have hzero : { s with idx := 0 }.Inv :=
    { h with phase := by simpa [State.PhaseInv, hf] using ⟨hacc, hraw, hoidx, hlen⟩ }
  have hclear : { s with idx := 0 }.DatapathClear := ⟨hacc, hraw, rfl, hoidx, hlen⟩
  rcases stepInitAdd_cases s with ⟨hlt, heq⟩ | ⟨-, -, heq⟩ | ⟨-, -, heq⟩ <;> rw [heq]
  · have hnext : (s.idx + 1).toNat = s.idx.toNat + 1 := by bv_omega
    exact { h.addEntry (.inr hf) _ with
      phase := by
        simp only [State.PhaseInv, State.addEntry_fsm, hf, State.addEntry_cfg, State.addEntry_acc,
          State.addEntry_raw, State.addEntry_oidx, State.addEntry_len, hnext]
        exact ⟨hlt, hacc, hraw, hoidx, hlen⟩ }
  · exact hzero.respondError hclear _
  · exact hzero.respond hclear (responseLegal_success (h.countBound.trans hmax))

/-- A LOADKEY that the inputs answer with success has given the cipher unit the key (R181). -/
def State.KeyLoaded (i : Inputs) (s : State) : Prop :=
  s.fsm = .getKey → ∀ d, i.cip = some ⟨true, d⟩ → s.cipher.key = some s.key

theorem stepGetKey_inv {i : Inputs} (h : s.Inv) (hf : s.fsm = .getKey) (hk : s.KeyLoaded i) :
    (stepGetKey i s).Inv := by
  obtain ⟨-, -, hidx, hoidx, hcount, hlen⟩ := h.phase_getKey hf
  rcases stepGetKey_cases i s with ⟨-, heq⟩ | ⟨d, hcip, heq⟩ | ⟨d, -, heq⟩ <;> rw [heq]
  · exact h
  · exact { h with
      responseValid := by simp [h.rspv_eq_false (s := s) (by simp [hf])]
      phase := ⟨by simpa [hidx] using hcount, hoidx, hlen, hk hf d hcip⟩ }
  · exact h.finishError (by simp [hf]) _

theorem stepGetSample_inv (i : Inputs) (h : s.Inv) (hf : s.fsm = .getSample) : (stepGetSample i s).Inv := by
  have hp := h.phase_round (.inl hf)
  rcases stepGetSample_cases i s with ⟨-, heq⟩ | ⟨a, -, -, heq⟩ | ⟨a, -, -, heq⟩ <;> rw [heq]
  · exact h
  · have hraw : { s with raw := a.data }.Inv :=
      { h with phase := by simp only [State.PhaseInv, hf]; exact hp }
    exact hraw.finishError (by simp [hf]) _
  · exact { h with
      responseValid := by simp [h.rspv_eq_false (s := s) (by simp [hf])]
      phase := hp }

theorem stepGetXor_inv (h : s.Inv) (hf : s.fsm = .getXor) : (stepGetXor s).Inv :=
  { h with
    responseValid := by simp [stepGetXor, h.rspv_eq_false (s := s) (by simp [hf])]
    phase := h.phase_round (.inr (.inl hf)) }

theorem stepGetEnc_inv (i : Inputs) (h : s.Inv) (hf : s.fsm = .getEnc) : (stepGetEnc i s).Inv := by
  obtain ⟨hidx, hoidx, hlen, hkey⟩ := h.phase_round (.inr (.inr hf))
  have hv := h.rspv_eq_false (by simp [hf])
  have hnext : (s.idx + 1).toNat = s.idx.toNat + 1 := by bv_omega
  rcases stepGetEnc_cases i s with ⟨-, heq⟩ | ⟨d, -, hlt, heq⟩ | ⟨d, -, hge, heq⟩ | ⟨d, -, heq⟩ <;> rw [heq]
  · exact h
  · exact { h with
      responseValid := by simp [hv]
      phase := ⟨hnext.trans_lt hlt, hoidx, hlen, hkey⟩ }
  · have hlast : s.idx + 1 = s.count := BitVec.eq_of_toNat_eq (by omega)
    exact { h with
      responseValid := by simp [hv]
      phase := ⟨hlast, Nat.zero_le _, hlen⟩ }
  · exact h.finishError (by simp [hf]) _

theorem stepGetOut_inv (h : s.Inv) (hf : s.fsm = .getOut) : (stepGetOut s).Inv := by
  obtain ⟨hidx, hoidx, hlen⟩ := h.phase_getOut hf
  obtain ⟨-, -, hmax, -⟩ := Config.bounds h.config
  rcases stepGetOut_cases s with ⟨hlt, heq⟩ | ⟨-, heq⟩ <;> rw [heq]
  · have hnext : (s.oidx + 1).toNat = s.oidx.toNat + 1 := by bv_omega
    exact { h.writeOut _ _ with
      phase := by
        simp only [State.PhaseInv, State.writeOut_fsm, hf, hnext]
        exact ⟨hidx, hlt, hlen⟩ }
  · exact h.finish (by simp [hf]) (responseLegal_success (by omega))

theorem stepRespond_inv (i : Inputs) (h : s.Inv) (hf : s.fsm = .respond) : (stepRespond i s).Inv := by
  rcases stepRespond_cases i s with ⟨-, heq⟩ | ⟨-, heq⟩ <;> rw [heq]
  · exact h.handOver hf
  · exact h

theorem stepBusy_inv {i : Inputs} (h : s.Inv) (hk : s.KeyLoaded i) : (stepBusy i s).Inv := by
  cases hf : s.fsm with
  | idle => rwa [stepBusy_idle i hf]
  | initAdd => rw [stepBusy_initAdd i hf]; exact stepInitAdd_inv h hf
  | getKey => rw [stepBusy_getKey i hf]; exact stepGetKey_inv h hf hk
  | getSample => rw [stepBusy_getSample i hf]; exact stepGetSample_inv i h hf
  | getXor => rw [stepBusy_getXor i hf]; exact stepGetXor_inv h hf
  | getEnc => rw [stepBusy_getEnc i hf]; exact stepGetEnc_inv i h hf
  | getOut => rw [stepBusy_getOut i hf]; exact stepGetOut_inv h hf
  | wipe => rw [stepBusy_wipe i hf]; exact h.wipe
  | respond => rw [stepBusy_respond i hf]; exact stepRespond_inv i h hf

/-! ### The edge -/

theorem clockEdge_inv {i : Inputs} {t : State} (h : s.Inv) (hk : s.KeyLoaded i) (he : clockEdge i s = .next t) :
    t.Inv := by
  rcases clockEdge_cases he with
    ⟨-, rfl⟩ | ⟨-, -, -, rfl⟩ | ⟨-, hf, w, why, -, -, rfl⟩ | ⟨-, hf, w, c, -, -, hx⟩ | ⟨-, -, rfl⟩
  · exact h.hwReset
  · exact h
  · exact h.respondError (h.datapathClear_idle hf) _
  · exact exec_inv h hf hx
  · exact stepBusy_inv h hk

/-- What the agents do keeps the invariant: the timer-jitter provider stays consistent, and in the rounds of a GET
the cipher unit keeps the block's key. -/
theorem State.Inv.worldNext (h : s.Inv) (e : Edge) : (s.worldNext e).Inv := by
  have hround (hf : s.fsm = .getSample ∨ s.fsm = .getXor ∨ s.fsm = .getEnc) :
      s.idx.toNat < s.count.toNat ∧ s.oidx = 0 ∧ s.len.toNat ≤ s.cfg.maxBytesRequest ∧
        (s.cipherNext e.cipher).key = some s.key := by
    have hkey := s.cipherNext_key e.cipher (by rcases hf with hf | hf | hf <;> simp [State.usesCipher, hf])
      (by rcases hf with hf | hf | hf <;> simp [hf])
    rw [hkey]
    exact h.phase_round hf
  exact { h with
    jitterOk := s.jitterNext_consistent e h.jitterOk
    phase := by
      have hp := h.phase
      cases hf : s.fsm with
      | getSample | getXor | getEnc =>
        simp only [State.PhaseInv, State.worldNext_fsm, hf]
        exact hround (by simp [hf])
      | wipe => simp only [State.PhaseInv, State.worldNext_fsm, hf]
      | idle | initAdd | getKey | getOut | respond =>
        simpa [State.PhaseInv, State.DatapathClear, hf] using hp }

/-- A successful answer to LOADKEY comes with the key in the cipher unit. -/
theorem State.worldNext_keyLoaded (s : State) (e : Edge) : (s.worldNext e).KeyLoaded (s.inputsAt e) := by
  intro hf d hcip
  have hreq : s.cipReq = some (.loadKey s.key) := by simp [State.cipReq, show s.fsm = .getKey from hf]
  simp only [State.inputsAt_cip, State.cipherAnswer, Option.ite_none_right_eq_some, Option.some.injEq,
    CipherAnswer.mk.injEq] at hcip
  obtain ⟨hans, hok, -⟩ := hcip
  simp [State.cipherNext, hreq, hans, hok, State.key]

end

/-! ### The reset -/

theorem State.powerOn_inv {c : Config} (hc : c.wellFormed = true) : (State.powerOn c).Inv where
  config := hc
  entries := List.length_replicate
  countBound := Nat.zero_le _
  unusedZero := fun i _ => State.srcAt_of_replicate rfl i
  responseValid := by simp [State.powerOn, State.reset]
  responseLegal := responseLegal_zero
  hostMemWf := Memory.wf_reset
  phase := ⟨rfl, rfl, rfl, rfl, rfl⟩
  jitterOk := ⟨rfl, rfl, rfl⟩

/-- Settles O46: the agents keep the invariant and answer LOADKEY with the key loaded, and then so does the block's
own transition. -/
theorem stepKeepsInvariant : Obligations.StepKeepsInvariant := fun s _ h hs =>
  clockEdge_inv (h.worldNext s.nextEdge) (s.worldNext_keyLoaded s.nextEdge) (step_eq s ▸ hs)

/-- Settles O45: the reference configuration is one of the legal ones. -/
theorem invariantAtReset : Obligations.InvariantAtReset :=
  ⟨State.powerOn_inv (c := Config.reference) (by decide), fun _ => State.powerOn_inv⟩

end Sys2Proof.Machine
end

section
/-! The computed fields of the status word, the key ROM, and the values after hardware reset. -/

namespace Sys2Proof.Machine

/-! ### The status word (R35) -/

theorem State.busy_iff (s : State) : s.busy = true ↔ s.fsm ≠ .idle := by simp [State.busy]

theorem State.statusWord_busy (s : State) : s.statusWord.getLsbD 0 = s.busy := by
  rw [State.statusWord, BitVec.getLsbD_append]
  simp

theorem State.statusWord_state (s : State) : s.statusWord.extractLsb' 1 4 = fsmCode s.fsm := by
  rw [State.statusWord, BitVec.extractLsb'_append_eq_of_le (by decide)]
  exact BitVec.extractLsb'_append_eq_right

theorem State.statusWord_zero (s : State) : s.statusWord.extractLsb' 5 3 = 0 := by
  rw [State.statusWord, BitVec.extractLsb'_append_eq_of_le (by decide),
    BitVec.extractLsb'_append_eq_of_le (by decide)]
  exact BitVec.extractLsb'_append_eq_right

theorem State.statusWord_count (s : State) : s.statusWord.extractLsb' 8 8 = s.count := by
  rw [State.statusWord, BitVec.extractLsb'_append_eq_of_le (by decide),
    BitVec.extractLsb'_append_eq_of_le (by decide)]
  exact BitVec.extractLsb'_append_eq_left

/-- Settles O6: each field is a part of the concatenation. -/
theorem statusWordFields : Obligations.StatusWordFields :=
  ⟨fun s => ⟨by rw [s.statusWord_busy]; exact s.busy_iff, s.statusWord_state, s.statusWord_zero, s.statusWord_count⟩,
    rfl⟩

/-! ### The key ROM (R29) -/

theorem keyRom_getElem {i : Nat} (h : i < 16) : keyRom[i] = BitVec.ofNat 8 i := by simp [keyRom]

/-- Settles O10: the key of a state is the ROM. -/
theorem keyIsIdentitySequence : Obligations.KeyIsIdentitySequence := fun _ _ h => keyRom_getElem h

/-! ### Hardware reset (R39) -/

theorem State.reset_registersReset : State.reset.RegistersReset :=
  ⟨State.srcAt_of_replicate rfl, rfl, rfl, ⟨rfl, rfl, rfl, rfl, rfl⟩, rfl, rfl⟩

/-- Settles O42: after reset `FSM = IDLE`, from which each output follows. -/
theorem resetStateValues : Obligations.ResetStateValues :=
  ⟨State.reset_registersReset, rfl, by decide, rfl, rfl, rfl, rfl, rfl, rfl, by decide⟩

end Sys2Proof.Machine
end

section
/-! What a command and a transition leave unchanged. -/

namespace Sys2Proof.Machine

/-- Settles O41, along what each command can do. -/
theorem commandFrames : Obligations.CommandFrames := by
  intro i s t he
  rcases exec_cases he with ⟨rfl, rfl⟩ | ⟨p, rfl, ⟨-, rfl⟩ | ⟨-, rfl⟩⟩ | ⟨rfl, rfl⟩ | ⟨n, rfl, ⟨k, -, rfl⟩ | ⟨-, rfl⟩⟩
  all_goals simp

/-- Of the transitions only `INIT_ADD` writes the registry (R22). -/
theorem stepBusy_registry (i : Inputs) {s : State} (hf : s.fsm ≠ .initAdd) :
    (stepBusy i s).src = s.src ∧ (stepBusy i s).count = s.count := by
  cases h : s.fsm with
  | initAdd => exact absurd h hf
  | idle => simp [stepBusy_idle i h]
  | getKey =>
    rw [stepBusy_getKey i h]
    rcases stepGetKey_cases i s with ⟨-, heq⟩ | ⟨d, -, heq⟩ | ⟨d, -, heq⟩ <;> simp [heq]
  | getSample =>
    rw [stepBusy_getSample i h]
    rcases stepGetSample_cases i s with ⟨-, heq⟩ | ⟨a, -, -, heq⟩ | ⟨a, -, -, heq⟩ <;> simp [heq]
  | getXor => simp [stepBusy_getXor i h, stepGetXor]
  | getEnc =>
    rw [stepBusy_getEnc i h]
    rcases stepGetEnc_cases i s with ⟨-, heq⟩ | ⟨d, -, -, heq⟩ | ⟨d, -, -, heq⟩ | ⟨d, -, heq⟩ <;> simp [heq]
  | getOut =>
    rw [stepBusy_getOut i h]
    rcases stepGetOut_cases s with ⟨-, heq⟩ | ⟨-, heq⟩ <;> simp [heq]
  | wipe => simp [stepBusy_wipe i h]
  | respond =>
    rw [stepBusy_respond i h]
    rcases stepRespond_cases i s with ⟨-, heq⟩ | ⟨-, heq⟩ <;> simp [heq]

/-- Of the commands, as they are accepted, only ADD and RESET write the registry (R22). -/
theorem exec_registry {c : Instr} {s t : State} (he : exec c s = .next t) :
    c = .reset ∨ (∃ p, c = .add p) ∨ t.src = s.src ∧ t.count = s.count := by
  obtain ⟨-, -, -, -, -, -, -, -, hframe⟩ := commandFrames c s t he
  cases c with
  | reset => exact .inl rfl
  | add p => exact .inr (.inl ⟨p, rfl⟩)
  | init =>
    obtain ⟨hsrc, hcount, -⟩ := hframe
    exact .inr (.inr ⟨hsrc, hcount⟩)
  | get n =>
    obtain ⟨hsrc, hcount, -⟩ := hframe
    exact .inr (.inr ⟨hsrc, hcount⟩)

/-- One edge of the block writes the registry only at a hardware reset, in `INIT_ADD`, or with an ADD or a RESET. -/
theorem clockEdge_registry {i : Inputs} {s t : State} (he : clockEdge i s = .next t) :
    i.rst = true ∨ s.fsm = .initAdd ∨
    (s.fsm = .idle ∧ ∃ w, i.cmd = some w ∧ (decode w = .command .reset ∨ ∃ p, decode w = .command (.add p))) ∨
    t.src = s.src ∧ t.count = s.count := by
  rcases clockEdge_cases he with
    ⟨hr, -⟩ | ⟨-, -, -, rfl⟩ | ⟨-, -, w, why, -, -, rfl⟩ | ⟨-, hf, w, c, hw, hc, hx⟩ | ⟨-, -, rfl⟩
  · exact .inl hr
  · exact .inr (.inr (.inr ⟨rfl, rfl⟩))
  · exact .inr (.inr (.inr ⟨rfl, rfl⟩))
  · rcases exec_registry hx with rfl | ⟨p, rfl⟩ | hsame
    · exact .inr (.inr (.inl ⟨hf, w, hw, .inl hc⟩))
    · exact .inr (.inr (.inl ⟨hf, w, hw, .inr ⟨p, hc⟩⟩))
    · exact .inr (.inr (.inr hsame))
  · by_cases hf : s.fsm = .initAdd
    · exact .inr (.inl hf)
    · exact .inr (.inr (.inr (stepBusy_registry i hf)))

/-- Settles O47: the world outside the block leaves the registry, `FSM` and the command as they are. -/
theorem registryWrittenOnlyByItsCommands : Obligations.RegistryWrittenOnlyByItsCommands := by
  intro s t hs hne
  rcases clockEdge_registry (step_eq s ▸ hs) with hr | hf | hcmd | ⟨hsrc, hcount⟩
  · exact .inl hr
  · exact .inr (.inl hf)
  · exact .inr (.inr hcmd)
  · rcases hne with hne | hne
    · exact absurd hsrc hne
    · exact absurd hcount hne

end Sys2Proof.Machine
end

section
/-! Of the whole state only the configuration, the registry, the FSM, the datapath and a recorded response reach the
later behaviour of the block (R33, R145): one edge factors through them. -/

namespace Sys2Proof.Machine

/-- What the later behaviour of the block depends on, with all else blanked: a response counts from when it is
recorded until the host takes it. -/
def State.conditioner (s : State) : State :=
  { s with
    rsp      := if s.fsm = .wipe ∨ s.fsm = .respond then s.rsp else 0
    hostMem  := []
    anyBytes := []
    outBase  := 0
    jitter   := TimerJitter.atRest
    cipher   := { key := none, lastBlock := none }
    script   := []
    edgeNo   := 0 }

theorem State.sameConditioner_of_eq {s t : State} (h : s.conditioner = t.conditioner) : s.SameConditioner t := by
  simp only [State.conditioner, State.mk.injEq] at h
  obtain ⟨hcfg, hsrc, hcount, hfsm, hidx, hoidx, hlen, hacc, hraw, hrsp, hrspv, -⟩ := h
  refine ⟨hcfg, hsrc, hcount, hfsm, hidx, hoidx, hlen, hacc, hraw, hrspv, fun hf => ?_⟩
  rwa [if_pos hf, if_pos (hfsm ▸ hf)] at hrsp

/-- Idle blocks of the invariant differ in configuration and registry only (R33). -/
theorem State.conditioner_eq_of_idle {s t : State} (hs : s.Inv) (ht : t.Inv) (hfs : s.fsm = .idle)
    (hft : t.fsm = .idle) (hcfg : s.cfg = t.cfg) (hsrc : s.src = t.src) (hcount : s.count = t.count) :
    s.conditioner = t.conditioner := by
  obtain ⟨sacc, sraw, sidx, soidx, slen⟩ := hs.datapathClear_idle hfs
  obtain ⟨tacc, traw, tidx, toidx, tlen⟩ := ht.datapathClear_idle hft
  have hvs := hs.rspv_eq_false (by simp [hfs])
  have hvt := ht.rspv_eq_false (by simp [hft])
  simp [State.conditioner, *]

section
variable (s : State)

@[simp] theorem State.conditioner_fsm : s.conditioner.fsm = s.fsm := rfl
@[simp] theorem State.conditioner_hasRoom : s.conditioner.hasRoom = s.hasRoom := rfl
@[simp] theorem State.conditioner_getCheck (n : Byte) : s.conditioner.getCheck n = s.getCheck n := rfl
@[simp] theorem State.conditioner_sampleAnswer (i : Inputs) : s.conditioner.sampleAnswer i = s.sampleAnswer i := rfl
@[simp] theorem State.conditioner_abortsOn (status : Byte) : s.conditioner.abortsOn status = s.abortsOn status := rfl

@[simp] theorem State.conditioner_conditioner : s.conditioner.conditioner = s.conditioner := by
  by_cases hf : s.fsm = .wipe ∨ s.fsm = .respond <;> simp [State.conditioner, hf]

theorem State.conditioner_addEntry (p : Byte) : s.conditioner.addEntry p = (s.addEntry p).conditioner := by
  cases hr : s.hasRoom with
  | true => rw [s.addEntry_of_room p hr, s.conditioner.addEntry_of_room p hr]; rfl
  | false => rw [s.addEntry_of_full p hr, s.conditioner.addEntry_of_full p hr]

/-! ### One edge does not see what is blanked -/

theorem exec_conditioner (c : Instr) :
    ∃ u v, exec c s = .next u ∧ exec c s.conditioner = .next v ∧ v.conditioner = u.conditioner := by
  cases c with
  | init => exact ⟨_, _, rfl, rfl, rfl⟩
  | reset => exact ⟨_, _, rfl, rfl, rfl⟩
  | add p =>
    simp only [exec, execAdd, State.conditioner_hasRoom, State.conditioner_addEntry]
    split <;> exact ⟨_, _, rfl, rfl, rfl⟩
  | get n =>
    simp only [exec, execGet, State.conditioner_getCheck]
    split <;> exact ⟨_, _, rfl, rfl, rfl⟩

variable (i : Inputs)

theorem stepInitAdd_conditioner : (stepInitAdd s.conditioner).conditioner = (stepInitAdd s).conditioner := by
  unfold stepInitAdd
  by_cases hi : s.idx.toNat < s.cfg.autoSources.length
  · have hi' : s.conditioner.idx.toNat < s.conditioner.cfg.autoSources.length := hi
    rw [if_pos hi, if_pos hi', State.conditioner_addEntry]
    exact State.conditioner_conditioner { s.addEntry _ with idx := s.idx + 1 }
  · have hi' : ¬s.conditioner.idx.toNat < s.conditioner.cfg.autoSources.length := hi
    rw [if_neg hi, if_neg hi']
    by_cases hc : s.count = 0
    · have hc' : s.conditioner.count = 0 := hc
      rw [if_pos hc, if_pos hc']; rfl
    · have hc' : ¬s.conditioner.count = 0 := hc
      rw [if_neg hc, if_neg hc']; rfl

theorem stepGetKey_conditioner : (stepGetKey i s.conditioner).conditioner = (stepGetKey i s).conditioner := by
  unfold stepGetKey
  rcases i.cip with _ | ⟨_ | _, d⟩
  · exact s.conditioner_conditioner
  · rfl
  · rfl

theorem stepGetSample_conditioner :
    (stepGetSample i s.conditioner).conditioner = (stepGetSample i s).conditioner := by
  unfold stepGetSample
  rw [State.conditioner_sampleAnswer]
  cases s.sampleAnswer i with
  | none => exact s.conditioner_conditioner
  | some a =>
    cases ha : s.abortsOn a.status <;> simp only [State.conditioner_abortsOn, ha] <;> rfl

theorem stepGetEnc_conditioner : (stepGetEnc i s.conditioner).conditioner = (stepGetEnc i s).conditioner := by
  unfold stepGetEnc
  rcases i.cip with _ | ⟨_ | _, d⟩
  · exact s.conditioner_conditioner
  · rfl
  · simp only [if_true]
    by_cases hi : s.idx.toNat + 1 < s.count.toNat
    · have hi' : s.conditioner.idx.toNat + 1 < s.conditioner.count.toNat := hi
      rw [if_pos hi, if_pos hi']; rfl
    · have hi' : ¬s.conditioner.idx.toNat + 1 < s.conditioner.count.toNat := hi
      rw [if_neg hi, if_neg hi']; rfl

theorem stepGetOut_conditioner : (stepGetOut s.conditioner).conditioner = (stepGetOut s).conditioner := by
  unfold stepGetOut
  by_cases ho : s.oidx.toNat < s.len.toNat
  · have ho' : s.conditioner.oidx.toNat < s.conditioner.len.toNat := ho
    rw [if_pos ho, if_pos ho']
    exact State.conditioner_conditioner { s.writeOut _ _ with oidx := s.oidx + 1 }
  · have ho' : ¬s.conditioner.oidx.toNat < s.conditioner.len.toNat := ho
    rw [if_neg ho, if_neg ho']; rfl

/-- `WIPE` makes the recorded response valid, which is why it counts from there. -/
theorem stepWipe_conditioner (hf : s.fsm = .wipe) : s.conditioner.wipe.conditioner = s.wipe.conditioner := by
  simp [State.conditioner, State.wipe, hf]

theorem stepRespond_conditioner : (stepRespond i s.conditioner).conditioner = (stepRespond i s).conditioner := by
  unfold stepRespond
  split
  · rfl
  · exact s.conditioner_conditioner

theorem stepBusy_conditioner : (stepBusy i s.conditioner).conditioner = (stepBusy i s).conditioner := by
  simp only [stepBusy, State.conditioner_fsm]
  cases hf : s.fsm with
  | idle => exact s.conditioner_conditioner
  | initAdd => exact stepInitAdd_conditioner s
  | getKey => exact stepGetKey_conditioner s i
  | getSample => exact stepGetSample_conditioner s i
  | getXor => rfl
  | getEnc => exact stepGetEnc_conditioner s i
  | getOut => exact stepGetOut_conditioner s
  | wipe => exact stepWipe_conditioner s hf
  | respond => exact stepRespond_conditioner s i

theorem acceptCommand_conditioner (cmd : Option Word) :
    ∃ u v, acceptCommand cmd s = .next u ∧ acceptCommand cmd s.conditioner = .next v ∧
      v.conditioner = u.conditioner := by
  cases cmd with
  | none => exact ⟨_, _, rfl, rfl, s.conditioner_conditioner⟩
  | some w =>
    simp only [acceptCommand]
    split
    · exact exec_conditioner s _
    · exact ⟨_, _, rfl, rfl, rfl⟩

theorem clockEdge_conditioner :
    ∃ u v, clockEdge i s = .next u ∧ clockEdge i s.conditioner = .next v ∧ v.conditioner = u.conditioner := by
  simp only [clockEdge, State.conditioner_fsm]
  cases i.rst with
  | true => exact ⟨_, _, rfl, rfl, rfl⟩
  | false =>
    by_cases hf : s.fsm = .idle
    · simpa [hf] using acceptCommand_conditioner s i.cmd
    · simpa [hf] using stepBusy_conditioner s i

end

/-! ### Runs -/

theorem clockEdge_conditioner_congr {s t : State} (h : s.conditioner = t.conditioner) (i : Inputs) :
    ∃ u v, clockEdge i s = .next u ∧ clockEdge i t = .next v ∧ u.conditioner = v.conditioner := by
  obtain ⟨u, u', hu, hu', hs⟩ := clockEdge_conditioner s i
  obtain ⟨v, v', hv, hv', ht⟩ := clockEdge_conditioner t i
  have heq : u' = v' := by
    rw [h, hv'] at hu'
    injection hu' with hu'
    exact hu'.symm
  exact ⟨u, v, hu, hv, by rw [← hs, heq, ht]⟩

theorem clockRun_conditioner_congr (ins : List Inputs) {s t : State} (h : s.conditioner = t.conditioner) :
    ∃ u v, clockRun ins s = .next u ∧ clockRun ins t = .next v ∧ u.conditioner = v.conditioner := by
  induction ins generalizing s t with
  | nil => exact ⟨s, t, rfl, rfl, h⟩
  | cons i is ih =>
    obtain ⟨u, v, hu, hv, huv⟩ := clockEdge_conditioner_congr h i
    simp only [clockRun, hu, hv]
    exact ih huv

/-- Settles O51: idle blocks agree in all that the later behaviour depends on, and every run keeps that so. -/
theorem noPoolBetweenGets : Obligations.NoPoolBetweenGets := by
  intro s t ins hs ht hfs hft hcfg hsrc hcount
  obtain ⟨u, v, hu, hv, h⟩ :=
    clockRun_conditioner_congr ins (State.conditioner_eq_of_idle hs ht hfs hft hcfg hsrc hcount)
  exact ⟨u, v, hu, hv, State.sameConditioner_of_eq h⟩

end Sys2Proof.Machine
end

section
/-! The 128-bit buses of the block: byte `i` of an array and bits `[8i+7:8i]` of the bus (R53). -/

namespace Sys2Proof.Machine

/-- Bit `k` of byte `i` is bit `8i + k` of the bus. -/
theorem busOf_getLsbD (v : Bytes16) {i k : Nat} (hi : i < 16) (hk : k < 8) :
    (busOf v).getLsbD (8 * i + k) = v[i].getLsbD k := by
  have hbus : 8 * i + k < 128 := by omega
  have hbyte : (8 * i + k) / 8 = i := by omega
  have hbit : (8 * i + k) % 8 = k := by omega
  simp only [busOf, BitVec.getLsbD_ofFnLE, dif_pos hbus, hbyte, hbit, byteAt, dif_pos hi]

theorem busOf_extractLsb' (v : Bytes16) {i : Nat} (hi : i < 16) : (busOf v).extractLsb' (8 * i) 8 = v[i] :=
  BitVec.eq_of_getLsbD_eq fun k hk => by
    rw [BitVec.getLsbD_extractLsb', busOf_getLsbD v hi hk]
    simp [hk]

theorem bytesOfBus_busOf (v : Bytes16) : bytesOfBus (busOf v) = v :=
  Vector.ext fun i hi => by rw [bytesOfBus, Vector.getElem_ofFn, busOf_extractLsb' v hi]

/-- Settles O9, byte by byte. -/
theorem busByteOrder : Obligations.BusByteOrder := fun v => ⟨fun _ hi => busOf_extractLsb' v hi, bytesOfBus_busOf v⟩

end Sys2Proof.Machine
end

section
/-! The host's memory at one edge: whatever it holds, the edge does the same and makes the one write that the output
ports ask for (R50, R51, R55). -/

namespace Sys2Proof.Machine

/-! ### The output write (R55, R132) -/

/-- The host's memory `m` after an edge at which the output ports of `s` are driven: the byte on `out_data` is
written where `out_we = 1`. -/
def State.outputWrite (s : State) (rst : Bool) (m : Memory) : Memory :=
  if (s.outputs rst).outWe then m.write (s.outAddr (s.outputs rst).outIdx) (s.outputs rst).outData else m

section
variable (s : State) (rst : Bool) (m : Memory)

theorem State.outWe_iff :
    (s.outputs rst).outWe = true ↔ s.fsm = .getOut ∧ s.oidx.toNat < s.len.toNat ∧ rst = false := by
  simp [State.outputs, and_assoc]

theorem State.outputWrite_of_ne_getOut (hf : s.fsm ≠ .getOut) : s.outputWrite rst m = m :=
  if_neg fun hw => hf ((s.outWe_iff rst).1 hw).1

theorem State.outputWrite_rst : s.outputWrite true m = m :=
  if_neg fun hw => by simpa using ((s.outWe_iff true).1 hw).2.2

theorem State.outputWrite_read (a : Nat) :
    (s.outputWrite rst m).read a =
      if (s.outputs rst).outWe = true ∧ a = s.outAddr s.oidx then some (byteAt s.acc s.oidx.toNat)
      else m.read a := by
  unfold State.outputWrite
  cases hw : (s.outputs rst).outWe with
  | true => simp [Memory.read_write, State.outputs]
  | false => simp

/-- The base of the buffer moves only in `IDLE`, where nothing is written (R51). -/
theorem State.worldNext_outputWrite (e : Edge) : (s.worldNext e).outputWrite rst m = s.outputWrite rst m := by
  by_cases hf : s.fsm = .getOut
  · have hbase : (s.worldNext e).outBase = s.outBase := by simp [hf]
    simp only [State.outputWrite, State.outAddr, hbase]
    rfl
  · rw [s.outputWrite_of_ne_getOut rst m hf, (s.worldNext e).outputWrite_of_ne_getOut rst m hf]

end

/-! ### One edge under any contents of the host's memory (R51) -/

/-- `s` with other contents of the host's memory. -/
def State.withHostMem (s : State) (m : Memory) : State := { s with hostMem := m }

section
variable (s : State) (m : Memory) (i : Inputs)

theorem State.withHostMem_ite (c : Prop) [Decidable c] (s t : State) :
    (if c then s else t).withHostMem m = if c then s.withHostMem m else t.withHostMem m :=
  apply_ite (State.withHostMem · m) c s t

theorem State.withHostMem_addEntry (p : Byte) : (s.withHostMem m).addEntry p = (s.addEntry p).withHostMem m := by
  simp only [State.addEntry, State.withHostMem_ite]
  rfl

theorem stepInitAdd_withHostMem : stepInitAdd (s.withHostMem m) = (stepInitAdd s).withHostMem m := by
  simp only [stepInitAdd, State.withHostMem_addEntry, State.withHostMem_ite]
  rfl

theorem stepGetKey_withHostMem : stepGetKey i (s.withHostMem m) = (stepGetKey i s).withHostMem m := by
  unfold stepGetKey
  rcases i.cip with _ | ⟨_ | _, d⟩ <;> rfl

theorem stepGetSample_withHostMem : stepGetSample i (s.withHostMem m) = (stepGetSample i s).withHostMem m := by
  have hans : (s.withHostMem m).sampleAnswer i = s.sampleAnswer i := rfl
  simp only [stepGetSample, hans]
  cases s.sampleAnswer i with
  | none => rfl
  | some a =>
    simp only [State.withHostMem_ite]
    rfl

theorem stepGetEnc_withHostMem : stepGetEnc i (s.withHostMem m) = (stepGetEnc i s).withHostMem m := by
  unfold stepGetEnc
  rcases i.cip with _ | ⟨_ | _, d⟩
  · rfl
  · rfl
  · simp only [State.withHostMem_ite]
    rfl

/-- `GET_OUT` writes the same byte at the same address in any memory. -/
theorem stepGetOut_withHostMem (hf : s.fsm = .getOut) :
    stepGetOut (s.withHostMem m) = (stepGetOut s).withHostMem (s.outputWrite false m) := by
  have hwe := s.outWe_iff false
  by_cases ho : s.oidx.toNat < s.len.toNat
  · rw [State.outputWrite, if_pos (hwe.2 ⟨hf, ho, rfl⟩), stepGetOut, stepGetOut, if_pos ho,
      if_pos (show (s.withHostMem m).oidx.toNat < (s.withHostMem m).len.toNat from ho)]
    rfl
  · rw [State.outputWrite, if_neg fun hw => ho (hwe.1 hw).2.1, stepGetOut, stepGetOut, if_neg ho,
      if_neg (show ¬(s.withHostMem m).oidx.toNat < (s.withHostMem m).len.toNat from ho)]
    rfl

theorem stepRespond_withHostMem : stepRespond i (s.withHostMem m) = (stepRespond i s).withHostMem m := by
  simp only [stepRespond, State.withHostMem_ite]
  rfl

theorem stepBusy_withHostMem :
    stepBusy i (s.withHostMem m) = (stepBusy i s).withHostMem (s.outputWrite false m) := by
  by_cases ho : s.fsm = .getOut
  · rw [stepBusy_getOut i ho, stepBusy_getOut i (s := s.withHostMem m) ho]
    exact stepGetOut_withHostMem s m ho
  · have hfsm : (s.withHostMem m).fsm = s.fsm := rfl
    rw [s.outputWrite_of_ne_getOut false m ho]
    simp only [stepBusy, hfsm]
    cases hf : s.fsm with
    | idle | getXor | wipe => rfl
    | initAdd => exact stepInitAdd_withHostMem s m
    | getKey => exact stepGetKey_withHostMem s m i
    | getSample => exact stepGetSample_withHostMem s m i
    | getEnc => exact stepGetEnc_withHostMem s m i
    | getOut => exact absurd hf ho
    | respond => exact stepRespond_withHostMem s m i

end

section
variable {s t : State}

theorem exec_withHostMem {c : Instr} (he : exec c s = .next t) (m : Memory) :
    exec c (s.withHostMem m) = .next (t.withHostMem m) := by
  have hroom : (s.withHostMem m).hasRoom = s.hasRoom := rfl
  have hcheck (n : Byte) : (s.withHostMem m).getCheck n = s.getCheck n := rfl
  rcases exec_cases he with
    ⟨rfl, rfl⟩ | ⟨p, rfl, ⟨hr, rfl⟩ | ⟨hr, rfl⟩⟩ | ⟨rfl, rfl⟩ | ⟨n, rfl, ⟨k, hc, rfl⟩ | ⟨hc, rfl⟩⟩
  · rfl
  · simp only [exec, execAdd, hroom, hr, State.withHostMem_addEntry]; rfl
  · simp only [exec, execAdd, hroom, hr]; rfl
  · rfl
  · simp only [exec, execGet, hcheck, hc]; rfl
  · simp only [exec, execGet, hcheck, hc]; rfl

theorem acceptCommand_withHostMem {cmd : Option Word} (ha : acceptCommand cmd s = .next t) (m : Memory) :
    acceptCommand cmd (s.withHostMem m) = .next (t.withHostMem m) := by
  cases cmd with
  | none =>
    obtain rfl := Host.Outcome.next.inj ha
    rfl
  | some w =>
    simp only [acceptCommand] at ha ⊢
    cases hd : decode w with
    | command c =>
      rw [hd] at ha
      exact exec_withHostMem ha m
    | illegal why =>
      rw [hd] at ha
      obtain rfl := Host.Outcome.next.inj ha
      rfl

theorem clockEdge_of_rst {i : Inputs} (hr : i.rst = true) : clockEdge i s = .next s.hwReset := by
  simp [clockEdge, hr]

theorem clockEdge_of_idle {i : Inputs} (hr : i.rst = false) (hf : s.fsm = .idle) :
    clockEdge i s = acceptCommand i.cmd s := by
  simp [clockEdge, hr, hf]

theorem clockEdge_of_busy {i : Inputs} (hr : i.rst = false) (hf : s.fsm ≠ .idle) :
    clockEdge i s = .next (stepBusy i s) := by
  simp [clockEdge, hr, hf]

/-- An edge does the same whatever the host's memory holds, and makes its output write in it. -/
theorem clockEdge_withHostMem {i : Inputs} (he : clockEdge i s = .next t) (m : Memory) :
    clockEdge i (s.withHostMem m) = .next (t.withHostMem (s.outputWrite i.rst m)) := by
  cases hr : i.rst with
  | true =>
    obtain rfl := Host.Outcome.next.inj ((clockEdge_of_rst hr).symm.trans he)
    rw [clockEdge_of_rst hr, State.outputWrite_rst]
    rfl
  | false =>
    by_cases hf : s.fsm = .idle
    · rw [clockEdge_of_idle hr hf] at he
      rw [clockEdge_of_idle (s := s.withHostMem m) hr hf, s.outputWrite_of_ne_getOut false m (by simp [hf])]
      exact acceptCommand_withHostMem he m
    · obtain rfl := Host.Outcome.next.inj ((clockEdge_of_busy hr hf).symm.trans he)
      rw [clockEdge_of_busy (s := s.withHostMem m) hr hf, stepBusy_withHostMem]

/-- The agents do not see the host's memory either. -/
theorem step_withHostMem (hs : step s = .next t) (m : Memory) :
    step (s.withHostMem m) = .next (t.withHostMem (s.outputWrite s.nextEdge.rst m)) := by
  rw [← s.worldNext_outputWrite s.nextEdge.rst m s.nextEdge]
  exact clockEdge_withHostMem (step_eq s ▸ hs) m

/-- The step makes the output write and no other (R50). -/
theorem step_hostMem (hs : step s = .next t) : t.hostMem = s.outputWrite s.nextEdge.rst s.hostMem := by
  have ht : t = t.withHostMem (s.outputWrite s.nextEdge.rst s.hostMem) :=
    Host.Outcome.next.inj (hs.symm.trans (step_withHostMem hs s.hostMem))
  exact congrArg State.hostMem ht

/-- Settles O50: both memories hold the same byte where the step writes, and what they held before elsewhere. -/
theorem hostMemoryNeverRead : Obligations.HostMemoryNeverRead := by
  intro s t m hs
  refine ⟨_, step_withHostMem hs m, rfl, fun a => ?_⟩
  simp only [step_hostMem hs, State.withHostMem, State.outputWrite_read]
  split
  · exact .inr rfl
  · exact .inl ⟨rfl, rfl⟩

/-! ### The writes end before the response (R59, R133, R134) -/

theorem step_rst_rspv (hs : step s = .next t) (hr : s.nextEdge.rst = true) : t.rspv = false := by
  rw [step_eq, clockEdge_of_rst hr] at hs
  obtain rfl := Host.Outcome.next.inj hs
  rfl

/-- `GET_OUT` goes on to itself or to the successful end. -/
theorem step_getOut_fsm (hs : step s = .next t) (hf : s.fsm = .getOut) (hr : s.nextEdge.rst = false) :
    t.fsm = .getOut ∨ t.fsm = .wipe ∧ t.rsp = responseWord s.len causeNone := by
  rw [step_eq, clockEdge_of_busy hr (by simp [hf]), stepBusy_getOut _ (by simpa using hf)] at hs
  obtain rfl := Host.Outcome.next.inj hs
  rcases stepGetOut_cases (s.worldNext s.nextEdge) with ⟨-, heq⟩ | ⟨-, heq⟩ <;> rw [heq]
  · exact .inl hf
  · exact .inr ⟨rfl, rfl⟩

/-- Settles O48: a byte that reads otherwise after the step is the one of the output write. -/
theorem onlyOutputWritesHostMemory : Obligations.OnlyOutputWritesHostMemory := by
  intro s t hs
  refine ⟨fun a ha => ?_, step_getOut_fsm hs⟩
  rw [step_hostMem hs, State.outputWrite_read] at ha ⊢
  have hw : (s.outputs s.nextEdge.rst).outWe = true ∧ a = s.outAddr s.oidx := by
    by_contra hn
    exact ha (if_neg hn)
  obtain ⟨hwe, haddr⟩ := hw
  exact ⟨hwe, ((s.outWe_iff _).1 hwe).1, haddr, if_pos ⟨hwe, haddr⟩⟩

/-- Settles O49: a valid response means `RESPOND`, where the invariant has the datapath clear and to which `GET_OUT`
does not lead. -/
theorem responseAfterWritesAndWipe : Obligations.ResponseAfterWritesAndWipe := by
  intro s t h hs _ hv
  have ht : t.Inv := stepKeepsInvariant s t h hs
  have hresp : t.fsm = .respond := ht.responseValid.1 hv
  have hf : s.fsm ≠ .getOut := by
    intro hf
    cases hr : s.nextEdge.rst with
    | true => simp [step_rst_rspv hs hr] at hv
    | false =>
      rcases step_getOut_fsm hs hf hr with hout | ⟨hwipe, -⟩
      · simp [hout] at hresp
      · simp [hwipe] at hresp
  exact ⟨ht.datapathClear_respond hresp, (step_hostMem hs).trans (s.outputWrite_of_ne_getOut _ _ hf), hf⟩

end

end Sys2Proof.Machine
end

section
/-! The command words: the fields of a word, the encoder and the decoder as inverses of one another, and the rows of
the opcode map (R70 to R78). -/

namespace Sys2Proof.Machine

/-! ### The fields of a command word (R70, R71) -/

@[simp] theorem opField_commandWord (op rsv : BitVec 4) (arg : Byte) : opField (commandWord op rsv arg) = op := by
  rw [opField, commandWord, BitVec.extractLsb'_append_eq_of_le (by decide)]
  exact BitVec.extractLsb'_append_eq_left

@[simp] theorem rsvField_commandWord (op rsv : BitVec 4) (arg : Byte) : rsvField (commandWord op rsv arg) = rsv := by
  rw [rsvField, commandWord, BitVec.extractLsb'_append_eq_of_le (by decide)]
  exact BitVec.extractLsb'_append_eq_right

@[simp] theorem argField_commandWord (op rsv : BitVec 4) (arg : Byte) : argField (commandWord op rsv arg) = arg :=
  BitVec.extractLsb'_append_eq_right

/-- A word is nothing but its three fields. -/
theorem commandWord_fields (w : Word) : commandWord (opField w) (rsvField w) (argField w) = w := by
  rw [commandWord, opField, rsvField, argField, BitVec.extractLsb'_append_extractLsb'_eq_extractLsb' (by decide),
    BitVec.extractLsb'_append_extractLsb'_eq_extractLsb' (by decide)]
  exact BitVec.extractLsb'_eq_self

theorem commandWord_eq_iff (op rsv : BitVec 4) (arg : Byte) (w : Word) :
    commandWord op rsv arg = w ↔ opField w = op ∧ rsvField w = rsv ∧ argField w = arg := by
  constructor
  · rintro rfl
    simp
  · rintro ⟨rfl, rfl, rfl⟩
    exact commandWord_fields w

theorem commandWord_and (op rsv op' rsv' : BitVec 4) (arg arg' : Byte) :
    commandWord op rsv arg &&& commandWord op' rsv' arg' =
      commandWord (op &&& op') (rsv &&& rsv') (arg &&& arg') :=
  BitVec.and_append.trans (congrArg (· ++ (arg &&& arg')) BitVec.and_append)

/-! ### Decoder and encoder (R73, R77, R78) -/

@[simp] theorem decode_encode (i : Instr) : decode (encode i) = .command i := by
  cases i <;> simp [encode, decode]

theorem encode_of_decode {w : Word} {i : Instr} (h : decode w = .command i) : encode i = w := by
  unfold decode at h
  split_ifs at h with hrsv hinit harg hadd hreset harg hget <;> cases h
  · exact (commandWord_eq_iff ..).2 ⟨hinit, not_not.1 hrsv, harg⟩
  · exact (commandWord_eq_iff ..).2 ⟨hadd, not_not.1 hrsv, rfl⟩
  · exact (commandWord_eq_iff ..).2 ⟨hreset, not_not.1 hrsv, harg⟩
  · exact (commandWord_eq_iff ..).2 ⟨hget, not_not.1 hrsv, rfl⟩

theorem decode_eq_command_iff {w : Word} {i : Instr} : decode w = .command i ↔ encode i = w :=
  ⟨encode_of_decode, fun h => h ▸ decode_encode i⟩

theorem encode_injective : Function.Injective encode := fun i j h =>
  Decoded.command.inj ((decode_encode i).symm.trans (h ▸ decode_encode j))

/-- The words that have a meaning, by their fields. -/
theorem exists_decode_eq_command_iff (w : Word) :
    (∃ i, decode w = .command i) ↔ rsvField w = 0 ∧
      (opField w = 0x1 ∧ argField w = 0 ∨ opField w = 0x2 ∨ opField w = 0x3 ∧ argField w = 0 ∨ opField w = 0x4) := by
  simp only [decode_eq_command_iff]
  constructor
  · rintro ⟨_ | p | _ | n, rfl⟩ <;> simp [encode]
  · rintro ⟨hr, ⟨ho, ha⟩ | ho | ⟨ho, ha⟩ | ho⟩
    · exact ⟨.init, (commandWord_eq_iff ..).2 ⟨ho, hr, ha⟩⟩
    · exact ⟨.add (argField w), (commandWord_eq_iff ..).2 ⟨ho, hr, rfl⟩⟩
    · exact ⟨.reset, (commandWord_eq_iff ..).2 ⟨ho, hr, ha⟩⟩
    · exact ⟨.get (argField w), (commandWord_eq_iff ..).2 ⟨ho, hr, rfl⟩⟩

theorem exists_decode_eq_illegal_iff (w : Word) :
    (∃ why, decode w = .illegal why) ↔ ¬ ∃ i, decode w = .command i := by
  cases decode w <;> simp

/-! ### The words as the opcode table numbers them (R80) -/

/-- The 16 bits of a word are the word. -/
theorem tableWord_toNat (w : Word) : tableWord 16 w.toNat = w := by
  rw [tableWord, Nat.mod_eq_of_lt w.isLt, BitVec.ofNat_toNat, BitVec.setWidth_eq]

theorem decodeTableWord_encode (i : Instr) : decodeTableWord 16 (encode i).toNat = some i := by
  rw [decodeTableWord, tableWord_toNat, decode_encode]

/-- Settles O1: the decoder reads back the fields that the encoder put together. -/
theorem decodeEncodeRoundTrip : Obligations.DecodeEncodeRoundTrip := fun i _ =>
  ⟨decode_encode i, decodeTableWord_encode i⟩

/-- Settles O2: each branch of the decoder that gives a command fixes the three fields of the word. -/
theorem encodeDecodeRoundTrip : Obligations.EncodeDecodeRoundTrip := fun _ _ => encode_of_decode

/-! ### The opcode map (R77) -/

/-- A row without an operand gives all three fields. -/
theorem and_fullMask_eq_iff (op : BitVec 4) (w : Word) :
    w &&& 0xFFFF = commandWord op 0 0 ↔ commandWord op 0 0 = w := by
  rw [show (0xFFFF : Word) = BitVec.allOnes 16 from rfl, BitVec.and_allOnes, eq_comm]

/-- A row with an operand leaves `ARG` open. -/
theorem and_operandMask_eq_iff (op : BitVec 4) (w : Word) :
    w &&& 0xFF00 = commandWord op 0 0 ↔ ∃ arg, commandWord op 0 arg = w := by
  have hmask : w &&& 0xFF00 = commandWord (opField w) (rsvField w) 0 :=
    calc w &&& 0xFF00
        = commandWord (opField w) (rsvField w) (argField w) &&&
            commandWord (BitVec.allOnes 4) (BitVec.allOnes 4) 0 := by rw [commandWord_fields]; rfl
      _ = commandWord (opField w) (rsvField w) 0 := by
        rw [commandWord_and, BitVec.and_allOnes, BitVec.and_allOnes, show argField w &&& 0 = 0 from BitVec.and_zero]
  rw [hmask, eq_comm]
  simp [commandWord_eq_iff]

theorem OpcodeRow.matches_iff (r : OpcodeRow) (w : Word) : r.matches w = true ↔ w &&& r.mask = r.pattern :=
  beq_iff_eq

/-- The table has a row for each command. -/
theorem exists_row_matches_encode (i : Instr) :
    ∃ r ∈ opcodeTable, r.matches (encode i) = true ∧ r.mnemonic = i.mnemonic := by
  simp only [OpcodeRow.matches_iff]
  cases i with
  | init => exact ⟨_, .head _, (and_fullMask_eq_iff 0x1 _).2 rfl, rfl⟩
  | add p => exact ⟨_, .tail _ (.head _), (and_operandMask_eq_iff 0x2 _).2 ⟨p, rfl⟩, rfl⟩
  | reset => exact ⟨_, .tail _ (.tail _ (.head _)), (and_fullMask_eq_iff 0x3 _).2 rfl, rfl⟩
  | get n => exact ⟨_, .tail _ (.tail _ (.tail _ (.head _))), (and_operandMask_eq_iff 0x4 _).2 ⟨n, rfl⟩, rfl⟩

/-- A row has no words but those of its command. -/
theorem exists_encode_of_matches {r : OpcodeRow} (hr : r ∈ opcodeTable) {w : Word} (hw : r.matches w = true) :
    ∃ i, encode i = w ∧ i.mnemonic = r.mnemonic := by
  rw [OpcodeRow.matches_iff] at hw
  simp only [opcodeTable, List.mem_cons, List.not_mem_nil, or_false] at hr
  rcases hr with rfl | rfl | rfl | rfl
  · exact ⟨.init, (and_fullMask_eq_iff 0x1 w).1 hw, rfl⟩
  · obtain ⟨p, hp⟩ := (and_operandMask_eq_iff 0x2 w).1 hw
    exact ⟨.add p, hp, rfl⟩
  · exact ⟨.reset, (and_fullMask_eq_iff 0x3 w).1 hw, rfl⟩
  · obtain ⟨n, hn⟩ := (and_operandMask_eq_iff 0x4 w).1 hw
    exact ⟨.get n, hn, rfl⟩

theorem opcodeTable_mnemonic_injective :
    ∀ r ∈ opcodeTable, ∀ q ∈ opcodeTable, r.mnemonic = q.mnemonic → r = q := by decide

/-- Settles O3: each command has a row, a row's words are its command's, and a word is of one command only. -/
theorem decoderAgreesWithOpcodeMap : Obligations.DecoderAgreesWithOpcodeMap := by
  intro w
  simp only [decode_eq_command_iff]
  refine ⟨fun _ hr hw => exists_encode_of_matches hr hw, fun i hi => ?_, fun r hr q hq hrw hqw => ?_⟩
  · exact hi ▸ exists_row_matches_encode i
  · obtain ⟨i, hi, hir⟩ := exists_encode_of_matches hr hrw
    obtain ⟨j, hj, hjq⟩ := exists_encode_of_matches hq hqw
    have hij : i = j := encode_injective (hi.trans hj.symm)
    exact opcodeTable_mnemonic_injective r hr q hq (by rw [← hir, ← hjq, hij])

/-! ### Illegal and sample words -/

/-- Settles O4: the illegal words are those that no command has. -/
theorem illegalWordsAreTheReservedOnes : Obligations.IllegalWordsAreTheReservedOnes := by
  intro w
  rw [exists_decode_eq_illegal_iff, exists_decode_eq_command_iff]
  -- The rest is propositional, given that a word has one OP.
  grind

/-- Settles O5: each legal word is that of its command. -/
theorem sampleWordsDecode : Obligations.SampleWordsDecode :=
  ⟨decode_encode .init, decode_encode (.add 0), decode_encode (.add 255), decode_encode .reset,
    decode_encode (.get 16), decode_encode (.get 255), rfl, rfl, rfl⟩

/-! ### The response word (R74) -/

theorem codeOf_responseWord (code : Byte) (cause : BitVec 3) : codeOf (responseWord code cause) = code :=
  BitVec.extractLsb'_append_eq_right

theorem causeOf_responseWord (code : Byte) (cause : BitVec 3) : causeOf (responseWord code cause) = cause := by
  rw [causeOf, responseWord, BitVec.extractLsb'_append_eq_of_le (by decide)]
  exact BitVec.extractLsb'_append_eq_right

theorem responseWord_zero (code : Byte) (cause : BitVec 3) : (responseWord code cause).extractLsb' 11 5 = 0 := by
  rw [responseWord, BitVec.extractLsb'_append_eq_of_le (by decide)]
  exact BitVec.extractLsb'_append_eq_left

/-- Settles O7: each field is a part of the concatenation. -/
theorem responseWordFields : Obligations.ResponseWordFields := fun code cause =>
  ⟨codeOf_responseWord code cause, causeOf_responseWord code cause, responseWord_zero code cause⟩

end Sys2Proof.Machine
end

section
/-! The registry commands ADD and RESET, one command and a run of ADDs at a time, and the GET that finds no source
(R100 to R105). -/

namespace Sys2Proof.Machine

/-! ### The commands as they are accepted -/

section
variable {s : State}

theorem exec_add_of_room (p : Byte) (hr : s.hasRoom = true) :
    exec (.add p) s = .next ((s.addEntry p).respond codeOk causeNone) := if_pos hr

theorem exec_add_of_full (p : Byte) (hr : s.hasRoom = false) :
    exec (.add p) s = .next (s.respondError .registryFull) := if_neg (by simp [hr])

theorem exec_reset (s : State) : exec .reset s = .next (s.clearRegistry.respond codeOk causeNone) := rfl

theorem exec_get_of_check {n : Byte} {k : ErrorKind} (hc : s.getCheck n = some k) :
    exec (.get n) s = .next (s.respondError k) := by
  simp only [exec, execGet, hc]

theorem State.hasRoom_eq_false_iff : s.hasRoom = false ↔ s.cfg.maxNumSources ≤ s.count.toNat := by
  simp [State.hasRoom]

/-- On an empty registry NO_SRC is the first check to fail, unless the length fails before it (R123). -/
theorem State.getCheck_of_empty {n : Byte} (hc : s.count = 0)
    (hn : n.toNat ≤ s.cfg.maxBytesRequest ∨ s.cfg.checkOrder = .nosrcFirst) :
    s.getCheck n = some .noSource := by
  have hempty : s.isEmpty = true := decide_eq_true hc
  unfold State.getCheck
  cases ho : s.cfg.checkOrder with
  | nosrcFirst => simp [hempty]
  | lenFirst =>
    have hlen : s.tooLarge n = false := decide_eq_false (by simpa [ho] using hn)
    simp [hempty, hlen]

end

/-- Settles O19: the branch of `add_entry` that the room decides. -/
theorem addAppendsOrAnswersFull : Obligations.AddAppendsOrAnswersFull := by
  refine fun s p => ⟨fun hlt => ?_, fun hge => ?_⟩
  · have hr := s.hasRoom_iff.2 hlt
    rw [exec_add_of_room p hr, s.addEntry_of_room p hr]
    rfl
  · rw [exec_add_of_full p (State.hasRoom_eq_false_iff.2 hge)]
    rfl

/-- Settles O21: the response is the only other thing that RESET writes. -/
theorem resetEmptiesRegistry : Obligations.ResetEmptiesRegistry := exec_reset

/-- Settles O22: with `COUNT = 0` the check that a GET fails is NO_SRC. -/
theorem getAfterResetAnswersNoSource : Obligations.GetAfterResetAnswersNoSource := by
  refine ⟨fun s t he => ?_, fun s n hc hn => exec_get_of_check (State.getCheck_of_empty hc hn)⟩
  obtain rfl := Host.Outcome.next.inj ((exec_reset s).symm.trans he)
  rfl

/-! ### A run of ADDs (R102) -/

theorem execAll_append {is js : List Instr} {s t : State} (h : execAll is s = .next t) :
    execAll (is ++ js) s = execAll js t := by
  induction is generalizing s with
  | nil => rw [List.nil_append, Host.Outcome.next.inj h]
  | cons i is ih =>
    simp only [List.cons_append, execAll] at h ⊢
    cases he : exec i s with
    | next u =>
      rw [he] at h
      exact ih h
    | fault r | refused r => simp [he] at h

theorem execAll_singleton (i : Instr) (s : State) : execAll [i] s = exec i s := by
  rw [execAll]
  cases exec i s <;> rfl

/-- `t` is as the ADDs of `ps`, each answered OK, leave `s`: the ports stand behind those registered before. -/
structure State.Registers (s : State) (ps : List Byte) (t : State) : Prop where
  cfg : t.cfg = s.cfg
  /-- The register file still has `MAX_NUM_SOURCES` entries (R20). -/
  entries : t.src.length = t.cfg.maxNumSources
  count : t.count.toNat = s.count.toNat + ps.length
  registered : t.registered = s.registered ++ ps
  answer : ps ≠ [] → t.rsp = responseWord codeOk causeNone

theorem State.Registers.nil {s : State} (h : s.src.length = s.cfg.maxNumSources) : s.Registers [] s where
  cfg := rfl
  entries := h
  count := rfl
  registered := (List.append_nil _).symm
  answer := fun hne => absurd rfl hne

/-- One more ADD that finds room. -/
theorem State.Registers.add {s t : State} {ps : List Byte} (h : s.Registers ps t) (hr : t.hasRoom = true)
    (hmax : t.cfg.maxNumSources ≤ 127) (p : Byte) :
    s.Registers (ps ++ [p]) ((t.addEntry p).respond codeOk causeNone) where
  cfg := by simpa using h.cfg
  entries := by simpa [t.addEntry_length p] using h.entries
  count := by
    have hc := t.addEntry_count p hmax
    rw [if_pos hr, h.count] at hc
    simpa [Nat.add_assoc] using hc
  registered :=
    calc (t.addEntry p).registered
        = t.registered ++ [p] := t.addEntry_registered p hr h.entries hmax
      _ = s.registered ++ (ps ++ [p]) := by rw [h.registered, List.append_assoc]
  answer := fun _ => rfl

/-- ADDs that there is room for register their ports. -/
theorem State.Inv.execAll_add {s : State} (h : s.Inv) (ps : List Byte)
    (hroom : s.count.toNat + ps.length ≤ s.cfg.maxNumSources) :
    ∃ t, execAll (ps.map .add) s = .next t ∧ s.Registers ps t := by
  induction ps using List.reverseRecOn with
  | nil => exact ⟨s, rfl, .nil h.entries⟩
  | append_singleton ps p ih =>
    rw [List.length_append, List.length_singleton] at hroom
    obtain ⟨t, hrun, ht⟩ := ih (by omega)
    have hr : t.hasRoom = true := t.hasRoom_iff.2 (by rw [ht.count, ht.cfg]; omega)
    have hmax : t.cfg.maxNumSources ≤ 127 := ht.cfg ▸ (Config.bounds h.config).2.1
    refine ⟨_, ?_, ht.add hr hmax p⟩
    rw [List.map_append, execAll_append hrun]
    exact (execAll_singleton _ t).trans (exec_add_of_room p hr)

theorem State.registered_of_count_zero {s : State} (hc : s.count = 0) : s.registered = [] := by
  simp [State.registered, hc]

/-- Settles O20: the run of ADDs up to the bound finds room at each, and then `COUNT` stands at the bound. -/
theorem registryCapacity : Obligations.RegistryCapacity := by
  intro s ps p h hc hlen
  have hcount : s.count.toNat = 0 := by rw [hc]; rfl
  have hreg := State.registered_of_count_zero hc
  refine ⟨fun k hk hk' => ?_, ?_⟩
  · have htake : (ps.take k).length = k := List.length_take_of_le hk'
    obtain ⟨u, hrun, hu⟩ := h.execAll_add (ps.take k) (by omega)
    have hne : ps.take k ≠ [] := List.ne_nil_of_length_pos (by omega)
    exact ⟨u, hrun, hu.answer hne, by rw [hu.registered, hreg, List.nil_append]⟩
  · obtain ⟨t, hrun, ht⟩ := h.execAll_add ps (by omega)
    have hfull : t.count.toNat = s.cfg.maxNumSources := by rw [ht.count]; omega
    have hr : t.hasRoom = false := State.hasRoom_eq_false_iff.2 (by rw [ht.cfg, hfull])
    refine ⟨t.respondError .registryFull, ?_, rfl, hfull, ?_⟩
    · rw [List.map_append, execAll_append hrun]
      exact (execAll_singleton _ t).trans (exec_add_of_full p hr)
    · calc t.registered
          = s.registered ++ ps := ht.registered
        _ = ps := by rw [hreg, List.nil_append]

end Sys2Proof.Machine
end

section
/-! The transitions of the block one by one: what each does with the answer it waits for, what it holds without it,
and which inputs it does not see (R120 to R138). -/

namespace Sys2Proof.Machine

/-! ### The requests (R125) -/

section
variable {s : State}

theorem State.srcReq_iff {p : Byte} :
    s.srcReq p = true ↔ s.fsm = .getSample ∧ p = s.roundPort ∧ s.connected p = true := by
  simp [State.srcReq, and_assoc]

theorem State.cipReq_loadKey_iff {k : Bytes16} : s.cipReq = some (.loadKey k) ↔ s.fsm = .getKey ∧ k = s.key := by
  unfold State.cipReq
  cases s.fsm <;> simp [eq_comm]

theorem State.cipReq_encrypt_iff {b : Bytes16} : s.cipReq = some (.encrypt b) ↔ s.fsm = .getEnc ∧ b = s.acc := by
  unfold State.cipReq
  cases s.fsm <;> simp [eq_comm]

theorem State.cipReq_isSome_iff : s.cipReq.isSome = true ↔ s.fsm = .getKey ∨ s.fsm = .getEnc := by
  unfold State.cipReq
  cases s.fsm <;> simp

/-- No cipher request stands beside a source request. -/
theorem State.cipReq_of_srcReq {p : Byte} (h : s.srcReq p = true) : s.cipReq = none := by
  obtain ⟨hf, -, -⟩ := State.srcReq_iff.1 h
  simp [State.cipReq, hf]

theorem State.request_sample_iff {p : Byte} : s.request = some (.sample p) ↔ s.srcReq p = true := by
  rw [State.srcReq_iff]
  unfold State.request
  cases s.fsm with
  | getSample =>
    simp only [Option.ite_none_right_eq_some, Option.some.injEq, Request.sample.injEq, true_and]
    constructor
    · rintro ⟨hc, rfl⟩
      exact ⟨rfl, hc⟩
    · rintro ⟨rfl, hc⟩
      exact ⟨hc, rfl⟩
  | _ => simp

theorem State.request_loadKey_iff {k : Bytes16} :
    s.request = some (.loadKey k) ↔ s.cipReq = some (.loadKey k) := by
  unfold State.request State.cipReq
  cases s.fsm <;> simp

theorem State.request_encrypt_iff {b : Bytes16} :
    s.request = some (.encrypt b) ↔ s.cipReq = some (.encrypt b) := by
  unfold State.request State.cipReq
  cases s.fsm <;> simp

/-- The lines of the source ports stand on the output port in the order of the ids. -/
theorem State.outputs_srcReq (rst : Bool) {p : Byte} (hp : p.toNat < s.cfg.numSourcePorts) :
    (s.outputs rst).srcReq[p.toNat]? = some (s.srcReq p) := by
  simp [State.outputs, List.getElem?_range hp]

end

/-- Settles O11: each request is tied to one state of the FSM and to one operand. -/
theorem oneRequestInFlight : Obligations.OneRequestInFlight := by
  intro s
  refine ⟨fun p => ?_, fun _ => State.cipReq_loadKey_iff, fun _ => State.cipReq_encrypt_iff, fun p q hp hq => ?_,
    fun _ => State.cipReq_of_srcReq, fun _ => State.request_sample_iff, fun _ => State.request_loadKey_iff,
    fun _ => State.request_encrypt_iff,
    fun rst => ⟨fun _ => State.outputs_srcReq rst, rfl, State.cipReq_isSome_iff, decide_eq_true_iff, rfl⟩⟩
  · rw [State.srcReq_iff, State.connected_iff]
    rfl
  · obtain ⟨-, hp, -⟩ := State.srcReq_iff.1 hp
    obtain ⟨-, hq, -⟩ := State.srcReq_iff.1 hq
    exact hp.trans hq.symm

/-! ### Acceptance (R120 to R123) -/

theorem acceptCommand_of_command {w : Word} {c : Instr} (hd : decode w = .command c) (s : State) :
    acceptCommand (some w) s = exec c s := by
  simp only [acceptCommand, hd]

/-- In `IDLE` the block takes what is on the command port. -/
theorem step_of_idle {s : State} (hf : s.fsm = .idle) (hr : s.nextEdge.rst = false) :
    step s = acceptCommand s.nextEdge.cmd (s.worldNext s.nextEdge) :=
  clockEdge_of_idle (s := s.worldNext s.nextEdge) (i := s.inputsAt s.nextEdge) hr hf

theorem step_of_busy {s : State} (hf : s.fsm ≠ .idle) (hr : s.nextEdge.rst = false) :
    step s = .next (stepBusy (s.inputsAt s.nextEdge) (s.worldNext s.nextEdge)) :=
  clockEdge_of_busy (s := s.worldNext s.nextEdge) (i := s.inputsAt s.nextEdge) hr hf

/-- Settles O12: the word on the port is decoded and dispatched. -/
theorem stepRunsDecodedCommand : Obligations.StepRunsDecodedCommand := by
  intro s w c hf hr hw hd
  rw [step_of_idle hf hr, hw, acceptCommand_of_command hd]

/-- Settles O14: without a word the acceptance holds. -/
theorem idleWaitsForCommand : Obligations.IdleWaitsForCommand := by
  intro s hf hr hc
  rw [step_of_idle hf hr, hc]
  rfl

/-- Settles O24: the arm of INIT. -/
theorem initAccepted : Obligations.InitAccepted := fun _ => rfl

theorem State.getCheck_tooLarge {s : State} {n : Byte} (hn : s.cfg.maxBytesRequest < n.toNat)
    (hc : s.cfg.checkOrder = .lenFirst ∨ s.count ≠ 0) : s.getCheck n = some .reqTooLarge := by
  have hlen : s.tooLarge n = true := decide_eq_true hn
  unfold State.getCheck
  cases ho : s.cfg.checkOrder with
  | lenFirst => simp [hlen]
  | nosrcFirst =>
    have hne : s.isEmpty = false := decide_eq_false (by simpa [ho] using hc)
    simp [hne, hlen]

/-- Settles O26: in each order the first check that fails gives the answer. -/
theorem getEarlyFailure : Obligations.GetEarlyFailure := fun _ _ =>
  ⟨fun hn hc => exec_get_of_check (State.getCheck_tooLarge hn hc),
    fun hc hn => exec_get_of_check (State.getCheck_of_empty hc hn.symm)⟩

theorem exec_get_of_pass {s : State} {n : Byte} (hn : n.toNat ≤ s.cfg.maxBytesRequest) (hc : s.count ≠ 0) :
    exec (.get n) s = .next (s.startGet n) := by
  simp only [exec, execGet, (s.getCheck_none_iff n).2 ⟨hn, hc⟩]

/-- Settles O27: both checks pass, and the conditioning starts. -/
theorem getAccepted : Obligations.GetAccepted := fun _ _ => exec_get_of_pass

/-! ### The transitions under an answer, and without one -/

section
variable {s : State} {i : Inputs}

theorem stepGetKey_of_none (h : i.cip = none) : stepGetKey i s = s := by simp [stepGetKey, h]

theorem stepGetKey_of_ok {d : Bytes16} (h : i.cip = some ⟨true, d⟩) :
    stepGetKey i s = { s with fsm := .getSample } := by simp [stepGetKey, h]

theorem stepGetKey_of_fail {d : Bytes16} (h : i.cip = some ⟨false, d⟩) :
    stepGetKey i s = s.finishError .cipherInitFail := by simp [stepGetKey, h]

theorem State.sampleAnswer_of_connected (h : s.connected s.roundPort = true) :
    s.sampleAnswer i = i.src s.roundPort := if_pos h

theorem stepGetSample_of_none (h : s.sampleAnswer i = none) : stepGetSample i s = s := by simp [stepGetSample, h]

theorem stepGetSample_of_abort {a : SrcAnswer} (h : s.sampleAnswer i = some a) (ha : s.abortsOn a.status = true) :
    stepGetSample i s = { s with raw := a.data }.finishError .sourceFail := by simp [stepGetSample, h, ha]

theorem stepGetSample_of_take {a : SrcAnswer} (h : s.sampleAnswer i = some a) (ha : s.abortsOn a.status = false) :
    stepGetSample i s = { s with raw := a.data, fsm := .getXor } := by simp [stepGetSample, h, ha]

theorem State.abortsOn_eq_true_iff {status : Byte} :
    s.abortsOn status = true ↔ s.cfg.srcFailPolicy = .abort ∧ s8 status ≠ 16 := by
  simp [State.abortsOn, sampleOk]

theorem State.abortsOn_eq_false_iff {status : Byte} :
    s.abortsOn status = false ↔ s.cfg.srcFailPolicy = .ignore ∨ s8 status = 16 := by
  cases hp : s.cfg.srcFailPolicy <;> simp [State.abortsOn, sampleOk, hp]

theorem stepGetEnc_of_none (h : i.cip = none) : stepGetEnc i s = s := by simp [stepGetEnc, h]

theorem stepGetEnc_of_next {d : Bytes16} (h : i.cip = some ⟨true, d⟩) (hi : s.idx.toNat + 1 < s.count.toNat) :
    stepGetEnc i s = { s with acc := d, idx := s.idx + 1, fsm := .getSample } := by simp [stepGetEnc, h, hi]

theorem stepGetEnc_of_last {d : Bytes16} (h : i.cip = some ⟨true, d⟩) (hi : s.count.toNat ≤ s.idx.toNat + 1) :
    stepGetEnc i s = { s with acc := d, idx := s.idx + 1, oidx := 0, fsm := .getOut } := by
  simp [stepGetEnc, h, Nat.not_lt.2 hi]

theorem stepGetEnc_of_fail {d : Bytes16} (h : i.cip = some ⟨false, d⟩) :
    stepGetEnc i s = s.finishError .cipherEncFail := by simp [stepGetEnc, h]

theorem stepGetOut_of_lt (h : s.oidx.toNat < s.len.toNat) :
    stepGetOut s = { s.writeOut s.oidx (byteAt s.acc s.oidx.toNat) with oidx := s.oidx + 1 } := if_pos h

theorem stepGetOut_of_le (h : s.len.toNat ≤ s.oidx.toNat) : stepGetOut s = s.finish s.len causeNone :=
  if_neg (Nat.not_lt.2 h)

theorem stepRespond_of_ready (h : i.rspReady = true) : stepRespond i s = s.handOver := if_pos h

theorem stepRespond_of_not_ready (h : i.rspReady = false) : stepRespond i s = s := if_neg (by simp [h])

end

/-- Settles O30: the three cases of the answer to LOADKEY. -/
theorem keyLoadAnswer : Obligations.KeyLoadAnswer := by
  intro s i d hf
  rw [stepBusy_getKey i hf]
  exact ⟨stepGetKey_of_ok, stepGetKey_of_fail, stepGetKey_of_none⟩

/-- Settles O31: the policy and the status decide between the two ways to take a sample. -/
theorem sampleAnswerTaken : Obligations.SampleAnswerTaken := by
  intro s i a hf hc ha
  have hans : s.sampleAnswer i = some a := (State.sampleAnswer_of_connected hc).trans ha
  rw [stepBusy_getSample i hf]
  exact ⟨fun hp hst => stepGetSample_of_abort hans (State.abortsOn_eq_true_iff.2 ⟨hp, hst⟩),
    fun h => stepGetSample_of_take hans (State.abortsOn_eq_false_iff.2 h)⟩

theorem xor16_getElem (a b : Bytes16) {k : Nat} (h : k < 16) : (xor16 a b)[k] = a[k] ^^^ b[k] := by simp [xor16]

/-- Settles O34: the new accumulator is `xor16` of the old one and the sample. -/
theorem xorFoldsSample : Obligations.XorFoldsSample := fun s i hf =>
  ⟨xor16 s.acc s.raw, fun _ h => xor16_getElem _ _ h, stepBusy_getXor i hf⟩

/-- Settles O35: the four cases of the answer to ENCRYPT. -/
theorem encryptAnswer : Obligations.EncryptAnswer := by
  intro s i d hf
  rw [stepBusy_getEnc i hf]
  exact ⟨stepGetEnc_of_next, stepGetEnc_of_last, stepGetEnc_of_fail, stepGetEnc_of_none⟩

/-- Settles O36: the write of one byte, or the end after the last. -/
theorem outputByteWritten : Obligations.OutputByteWritten := by
  intro s i hf
  rw [stepBusy_getOut i hf]
  refine ⟨fun hlt => ⟨_, _, stepGetOut_of_lt hlt, ?_, fun a ha => ?_, fun a => ?_⟩, stepGetOut_of_le⟩
  · exact Memory.read_write_same _ _ _
  · exact Memory.read_write_other _ _ ha
  · simp

/-- A GET that has started the cipher goes on with it, or to `WIPE`. -/
theorem stepBusy_get_fsm (i : Inputs) {s : State} (hf : s.fsm ∈ [.getKey, .getSample, .getXor, .getEnc, .getOut]) :
    (stepBusy i s).fsm ∈ [.getKey, .getSample, .getXor, .getEnc, .getOut, .wipe] := by
  simp only [List.mem_cons, List.not_mem_nil, or_false] at hf
  rcases hf with hf | hf | hf | hf | hf
  · rw [stepBusy_getKey i hf]
    rcases stepGetKey_cases i s with ⟨-, heq⟩ | ⟨d, -, heq⟩ | ⟨d, -, heq⟩ <;> simp [heq, hf]
  · rw [stepBusy_getSample i hf]
    rcases stepGetSample_cases i s with ⟨-, heq⟩ | ⟨a, -, -, heq⟩ | ⟨a, -, -, heq⟩ <;> simp [heq, hf]
  · simp [stepBusy_getXor i hf, stepGetXor]
  · rw [stepBusy_getEnc i hf]
    rcases stepGetEnc_cases i s with ⟨-, heq⟩ | ⟨d, -, -, heq⟩ | ⟨d, -, -, heq⟩ | ⟨d, -, heq⟩ <;> simp [heq, hf]
  · rw [stepBusy_getOut i hf]
    rcases stepGetOut_cases s with ⟨-, heq⟩ | ⟨-, heq⟩ <;> simp [heq, hf]

/-- Settles O37: `WIPE` itself, and the states of a GET as closed under its transitions but for `WIPE`. -/
theorem wipeClearsDatapath : Obligations.WipeClearsDatapath := fun _ i => ⟨stepBusy_wipe i, stepBusy_get_fsm i⟩

/-- Settles O38: the two cases of `rsp_ready`. -/
theorem responseHandedOver : Obligations.ResponseHandedOver := by
  intro s i hf
  rw [stepBusy_respond i hf]
  exact ⟨stepRespond_of_ready, stepRespond_of_not_ready⟩

/-! ### Waiting (R126, R183, R209) -/

/-- A block that every edge holds as it is stays so over a run. -/
theorem clockRun_of_hold {ins : List Inputs} {s : State} (h : ∀ i ∈ ins, clockEdge i s = .next s) :
    clockRun ins s = .next s := by
  induction ins with
  | nil => rfl
  | cons i is ih =>
    obtain ⟨hi, his⟩ := List.forall_mem_cons.1 h
    simp only [clockRun, hi]
    exact ih his

/-- Settles O39: each waiting state holds at one edge without its answer. -/
theorem missingAnswerHoldsForever : Obligations.MissingAnswerHoldsForever := by
  refine fun s ins hrst hwait => clockRun_of_hold fun i hi => ?_
  rcases hwait with ⟨hf, hc, hsrc⟩ | ⟨hf | hf, hcip⟩ | ⟨hf, hready⟩
  all_goals rw [clockEdge_of_busy (hrst i hi) (by simp [hf])]
  · rw [stepBusy_getSample i hf, stepGetSample_of_none ((State.sampleAnswer_of_connected hc).trans (hsrc i hi))]
  · rw [stepBusy_getKey i hf, stepGetKey_of_none (hcip i hi)]
  · rw [stepBusy_getEnc i hf, stepGetEnc_of_none (hcip i hi)]
  · rw [stepBusy_respond i hf, stepRespond_of_not_ready (hready i hi)]

/-! ### Answers nobody asked for (R138) -/

theorem State.sampleAnswer_congr {s : State} {i j : Inputs}
    (h : s.connected s.roundPort = true → i.src s.roundPort = j.src s.roundPort) :
    s.sampleAnswer i = s.sampleAnswer j :=
  ite_congr rfl h fun _ => rfl

/-- A transition sees no answer but the one it waits for. -/
theorem stepBusy_congr {s : State} {i j : Inputs} (hready : i.rspReady = j.rspReady)
    (hsrc : s.fsm = .getSample → s.connected s.roundPort = true → i.src s.roundPort = j.src s.roundPort)
    (hcip : s.fsm = .getKey ∨ s.fsm = .getEnc → i.cip = j.cip) : stepBusy i s = stepBusy j s := by
  unfold stepBusy
  cases hf : s.fsm with
  | idle | initAdd | getXor | getOut | wipe => rfl
  | getKey => simp only [stepGetKey, hcip (.inl hf)]
  | getSample => simp only [stepGetSample, State.sampleAnswer_congr (hsrc hf)]
  | getEnc => simp only [stepGetEnc, hcip (.inr hf)]
  | respond => simp only [stepRespond, hready]

/-- Settles O40: neither a reset nor the acceptance sees an answer, and a transition only its own. -/
theorem unaskedAnswersIgnored : Obligations.UnaskedAnswersIgnored := by
  intro s i j hrst hcmd hready hsrc hcip
  simp only [clockEdge, hrst, hcmd, stepBusy_congr hready hsrc hcip]

end Sys2Proof.Machine
end

section
/-! INIT from its acceptance to its response: one transition for each entry of `AUTO_SOURCES`, and one that answers
(R121, R122). -/

namespace Sys2Proof.Machine

/-- In `INIT_ADD`, with the entries of `AUTO_SOURCES` before `i` done. -/
def State.initAddAt (s : State) (i : Byte) : State := { s with idx := i, fsm := .initAdd }

/-- The answer of INIT: the total `COUNT`, or NO_SRC. -/
def State.initAnswer (s : State) : State :=
  if s.count = 0 then s.respondError .noSource else s.respond s.count causeNone

section
variable {s : State}

/-- `add_entry` and the place in `AUTO_SOURCES` are written independently. -/
theorem State.addEntry_initAddAt (p i : Byte) : (s.initAddAt i).addEntry p = (s.addEntry p).initAddAt i := by
  have hroom : (s.initAddAt i).hasRoom = s.hasRoom := rfl
  cases hr : s.hasRoom with
  | true => rw [s.addEntry_of_room p hr, (s.initAddAt i).addEntry_of_room p (hroom.trans hr)]; rfl
  | false => rw [s.addEntry_of_full p hr, (s.initAddAt i).addEntry_of_full p (hroom.trans hr)]

theorem stepInitAdd_of_lt {i : Byte} (hi : i.toNat < s.cfg.autoSources.length) :
    stepInitAdd (s.initAddAt i) = (s.addEntry s.cfg.autoSources[i.toNat]).initAddAt (i + 1) := by
  have hstep : stepInitAdd (s.initAddAt i) =
      ((s.initAddAt i).addEntry (s.cfg.autoSources.getD i.toNat 0)).initAddAt (i + 1) :=
    (if_pos hi).trans (by simp [State.initAddAt])
  rw [hstep, List.getD_eq_getElem _ _ hi, State.addEntry_initAddAt]
  rfl

theorem stepInitAdd_of_le {i : Byte} (hi : s.cfg.autoSources.length ≤ i.toNat) :
    stepInitAdd (s.initAddAt i) = { s with idx := 0 }.initAnswer :=
  if_neg (Nat.not_lt.2 hi)

theorem State.with_idx_self {i : Byte} (h : s.idx = i) : { s with idx := i } = s := by
  subst h
  rfl

theorem State.foldl_addEntry_idx (ps : List Byte) : (ps.foldl State.addEntry s).idx = s.idx := by
  induction ps generalizing s with
  | nil => rfl
  | cons p ps ih => rw [List.foldl_cons, ih, State.addEntry_idx]

/-- The rest of INIT, by the number of entries still to come; no transition sees the inputs. -/
theorem busyRun_initAddAt (ins : List Inputs) (i : Byte) (hlen : s.cfg.autoSources.length ≤ 255)
    (hins : i.toNat + ins.length = s.cfg.autoSources.length + 1) (hi : i.toNat ≤ s.cfg.autoSources.length) :
    busyRun ins (s.initAddAt i) =
      { (s.cfg.autoSources.drop i.toNat).foldl State.addEntry s with idx := 0 }.initAnswer := by
  induction ins generalizing s i with
  | nil =>
    rw [List.length_nil] at hins
    omega
  | cons j js ih =>
    rw [List.length_cons] at hins
    rw [busyRun, stepBusy_initAdd j rfl]
    rcases Nat.lt_or_ge i.toNat s.cfg.autoSources.length with hlt | hge
    · have hnext : (i + 1).toNat = i.toNat + 1 := by bv_omega
      rw [stepInitAdd_of_lt hlt,
        ih _ (by simpa using hlen) (by rw [hnext, State.addEntry_cfg]; omega)
          (by rw [hnext, State.addEntry_cfg]; omega),
        List.drop_eq_getElem_cons hlt, hnext, State.addEntry_cfg]
      rfl
    · have hjs : js = [] := List.length_eq_zero_iff.1 (by omega)
      rw [stepInitAdd_of_le hge, List.drop_eq_nil_of_le hge, hjs]
      rfl

end

/-- The response of INIT over any inputs. -/
theorem busyRun_init {s : State} (h : s.Inv) (hf : s.fsm = .idle) {ins : List Inputs}
    (hins : ins.length = s.cfg.autoSources.length + 1) :
    busyRun ins (s.initAddAt 0) = (s.cfg.autoSources.foldl State.addEntry s).initAnswer := by
  obtain ⟨-, -, -, hlen⟩ := Config.bounds h.config
  obtain ⟨-, -, hidx, -, -⟩ := h.datapathClear_idle hf
  have hidx' : (s.cfg.autoSources.foldl State.addEntry s).idx = 0 := (State.foldl_addEntry_idx _).trans hidx
  have hrun := busyRun_initAddAt ins 0 hlen (by simpa using hins) (Nat.zero_le _)
  exact hrun.trans (congrArg State.initAnswer (State.with_idx_self hidx'))

/-- Settles O23: INIT is accepted into `INIT_ADD` at entry 0, with all of `AUTO_SOURCES` to come. -/
theorem initRegistersAutoSources : Obligations.InitRegistersAutoSources := fun _ h hf =>
  ⟨_, rfl, fun _ hins => busyRun_init h hf hins⟩

/-! ### NO_SRC (R122) -/

section
variable {s : State}

/-- The word of a success has another CAUSE than that of an error (R76). -/
theorem responseWord_ne_errorWord (c : Byte) (k : ErrorKind) : responseWord c causeNone ≠ errorWord k := by
  intro heq
  have hcause := congrArg causeOf heq
  rw [errorWord, causeOf_responseWord, causeOf_responseWord] at hcause
  cases k <;> exact absurd hcause (by decide)

theorem State.initAnswer_noSource_iff : s.initAnswer.rsp = errorWord .noSource ↔ s.count = 0 := by
  unfold State.initAnswer
  by_cases hc : s.count = 0
  · rw [if_pos hc]
    exact iff_of_true rfl hc
  · rw [if_neg hc]
    exact iff_of_false (responseWord_ne_errorWord _ _) hc

/-- `add_entry` leaves no registry empty: where there is no room, it was full. -/
theorem State.addEntry_count_pos (hc : s.cfg.wellFormed = true) (p : Byte) : 0 < (s.addEntry p).count.toNat := by
  obtain ⟨hmin, hmax, -, -⟩ := Config.bounds hc
  rw [s.addEntry_count p hmax]
  cases hr : s.hasRoom with
  | true => simp
  | false =>
    have hfull := State.hasRoom_eq_false_iff.1 hr
    simp only [Bool.false_eq_true, if_false]
    omega

theorem State.foldl_addEntry_count_pos (hc : s.cfg.wellFormed = true) (h : 0 < s.count.toNat) (ps : List Byte) :
    0 < (ps.foldl State.addEntry s).count.toNat := by
  induction ps generalizing s with
  | nil => exact h
  | cons p ps ih => exact ih (by simpa using hc) (State.addEntry_count_pos hc p)

/-- Nothing is registered in the end exactly when nothing was and nothing is to be. -/
theorem State.foldl_addEntry_count_eq_zero_iff (hc : s.cfg.wellFormed = true) (ps : List Byte) :
    (ps.foldl State.addEntry s).count = 0 ↔ s.count = 0 ∧ ps = [] := by
  cases ps with
  | nil => simp
  | cons p ps =>
    have hpos := State.foldl_addEntry_count_pos (s := s.addEntry p) (by simpa using hc)
      (State.addEntry_count_pos hc p) ps
    simp only [List.foldl_cons, reduceCtorEq, and_false, iff_false]
    intro h0
    simp [h0] at hpos

end

/-- Settles O25: the answer is NO_SRC when the registry is empty after the entries. -/
theorem initNoSourceExactlyWhenNothingRegistered : Obligations.InitNoSourceExactlyWhenNothingRegistered := by
  intro s t ins h hf he hins
  obtain rfl := Host.Outcome.next.inj ((initAccepted s).symm.trans he)
  have hrun : busyRun ins _ = _ := busyRun_init h hf hins
  have hword : (0x02FF : Word) = errorWord .noSource := rfl
  rw [State.initAddAt] at hrun
  rw [hrun, hword, State.initAnswer_noSource_iff, State.foldl_addEntry_count_eq_zero_iff h.config]

end Sys2Proof.Machine
end

section
/-! A GET against `GET_ref` (R140). What a GET still has to do is a function of the state of the block and of the
answers: its end state and its further requests. Each transition keeps the end state and takes its own request off the
further ones, so that both can be read at acceptance and at the response. -/

namespace Sys2Proof.Machine

/-! ### The output bytes -/

/-- The output bytes `j` to `j + k - 1`, written to the host in ascending order (R55). -/
def State.writeRange (v : Bytes16) (s : State) (j k : Nat) : State :=
  (List.range' j k).foldl (fun s m => s.writeOut (BitVec.ofNat 8 m) (byteAt v m)) s

theorem State.writeBytes_eq_writeRange (s : State) (v : Bytes16) (n : Nat) :
    s.writeBytes v n = s.writeRange v 0 n := by
  induction n with
  | zero => rfl
  | succ n ih => simp [State.writeBytes, State.writeRange, List.range'_concat, ih]

theorem State.writeRange_succ (v : Bytes16) (s : State) (j k : Nat) :
    s.writeRange v j (k + 1) = (s.writeOut (BitVec.ofNat 8 j) (byteAt v j)).writeRange v (j + 1) k := rfl

/-- An update that the output writes neither see nor overwrite commutes with them. -/
theorem State.writeRange_comm {f : State → State} (hf : ∀ s j b, (f s).writeOut j b = f (s.writeOut j b))
    (v : Bytes16) (s : State) (j k : Nat) : (f s).writeRange v j k = f (s.writeRange v j k) :=
  List.foldl_hom f fun s _ => hf s _ _

/-! ### What a GET still has to do -/

/-- How `GET_ref` goes on, and with which requests, before round `i`. -/
def State.roundsRest (s : State) (a : Answers) (i : Nat) (acc : Bytes16) : GetResult × List Request :=
  (s.refRounds a (s.registered.drop i) i acc, s.refRequests a (s.registered.drop i) i acc)

/-- How it goes on in round `i` once the block `b` to be encrypted stands. -/
def State.encryptRest (s : State) (a : Answers) (i : Nat) (b : Bytes16) : GetResult × List Request :=
  if (a.encrypt i b).ok then
    ((s.roundsRest a (i + 1) (a.encrypt i b).data).1,
      .encrypt b :: (s.roundsRest a (i + 1) (a.encrypt i b).data).2)
  else (.failure .cipherEncFail, [.encrypt b])

/-- How it goes on in each state that has not yet come to the output. -/
def State.getRest (s : State) (a : Answers) : GetResult × List Request :=
  match s.fsm with
  | .getKey =>
    if a.keyOk then
      ((s.roundsRest a s.idx.toNat s.acc).1, .loadKey s.key :: (s.roundsRest a s.idx.toNat s.acc).2)
    else (.failure .cipherInitFail, [.loadKey s.key])
  | .getSample => s.roundsRest a s.idx.toNat s.acc
  | .getXor => s.encryptRest a s.idx.toNat (xor16 s.acc s.raw)
  | .getEnc => s.encryptRest a s.idx.toNat s.acc
  | .idle | .initAdd | .getOut | .wipe | .respond => (.output s.acc, [])

/-- The end of a GET with this result: output, `WIPE` and `RESPOND`. -/
def State.endWith (s : State) : GetResult → State
  | .output v => ((s.writeRange v 0 s.len.toNat).finish s.len causeNone).wipe
  | .failure k => (s.finishError k).wipe

/-- The state in which the response of the running GET is valid. -/
def State.getEnd (s : State) (a : Answers) : State :=
  match s.fsm with
  | .getKey | .getSample | .getXor | .getEnc => s.endWith (s.getRest a).1
  | .getOut => ((s.writeRange s.acc s.oidx.toNat (s.len.toNat - s.oidx.toNat)).finish s.len causeNone).wipe
  | .wipe => s.wipe
  | .idle | .initAdd | .respond => s

/-- A GET is running or has its response valid; before the output a source is to come. -/
structure State.Getting (s : State) : Prop where
  entries : s.count.toNat ≤ s.src.length
  round : s.usesCipher = true → s.idx.toNat < s.count.toNat
  started : s.fsm ≠ .idle ∧ s.fsm ≠ .initAdd

section
variable {s t : State} {a : Answers}

theorem State.roundsRest_congr (hcfg : s.cfg = t.cfg) (hreg : s.registered = t.registered) (i : Nat)
    (acc : Bytes16) : s.roundsRest a i acc = t.roundsRest a i acc := by
  unfold State.roundsRest
  rw [hreg, State.refRounds_congr hcfg, State.refRequests_congr hcfg]

/-- What is left of the rounds does not depend on where the datapath stands. -/
theorem State.roundsRest_datapath (s : State) (acc raw : Bytes16) (idx oidx : Byte) (fsm : Fsm) (i : Nat)
    (v : Bytes16) : { s with acc, raw, idx, oidx, fsm }.roundsRest a i v = s.roundsRest a i v :=
  State.roundsRest_congr (s := { s with acc, raw, idx, oidx, fsm }) (t := s) rfl rfl i v

theorem State.encryptRest_datapath (s : State) (acc raw : Bytes16) (idx oidx : Byte) (fsm : Fsm) (i : Nat)
    (v : Bytes16) : { s with acc, raw, idx, oidx, fsm }.encryptRest a i v = s.encryptRest a i v := by
  simp only [State.encryptRest, State.roundsRest_datapath]

/-- After the last round the accumulator is the output. -/
theorem State.roundsRest_last {i : Nat} (hi : s.count.toNat ≤ i) (acc : Bytes16) :
    s.roundsRest a i acc = (.output acc, []) := by
  have hnil : s.registered.drop i = [] := List.drop_eq_nil_of_le ((List.length_take_le _ _).trans hi)
  rw [State.roundsRest, hnil]
  rfl

/-- A round whose sample is given up. -/
theorem State.roundsRest_abort (hl : s.count.toNat ≤ s.src.length) {i : Nat} (hi : i < s.count.toNat)
    (acc : Bytes16) (ha : s.abortsOn (s.refSample a i (s.srcAt i)).status = true) :
    s.roundsRest a i acc =
      (.failure .sourceFail, if s.connected (s.srcAt i) then [.sample (s.srcAt i)] else []) := by
  rw [State.roundsRest, State.registered_drop hl hi, State.refRounds, State.refRequests, if_pos ha, if_pos ha,
    List.append_nil]

/-- A round whose sample is folded in. -/
theorem State.roundsRest_take (hl : s.count.toNat ≤ s.src.length) {i : Nat} (hi : i < s.count.toNat)
    (acc : Bytes16) (ha : s.abortsOn (s.refSample a i (s.srcAt i)).status = false) :
    s.roundsRest a i acc =
      ((s.encryptRest a i (xor16 acc (s.refSample a i (s.srcAt i)).data)).1,
        (if s.connected (s.srcAt i) then [.sample (s.srcAt i)] else []) ++
          (s.encryptRest a i (xor16 acc (s.refSample a i (s.srcAt i)).data)).2) := by
  rw [State.roundsRest, State.registered_drop hl hi, State.refRounds, State.refRequests, State.encryptRest]
  cases hok : (a.encrypt i (xor16 acc (s.refSample a i (s.srcAt i)).data)).ok <;>
    simp [ha, State.roundsRest]

theorem State.getEnd_of_usesCipher (h : s.usesCipher = true) : s.getEnd a = s.endWith (s.getRest a).1 := by
  unfold State.getEnd
  unfold State.usesCipher at h
  cases hf : s.fsm <;> simp [hf] at h ⊢

theorem State.getEnd_of_getOut (h : s.fsm = .getOut) :
    s.getEnd a =
      ((s.writeRange s.acc s.oidx.toNat (s.len.toNat - s.oidx.toNat)).finish s.len causeNone).wipe := by
  simp only [State.getEnd, h]

/-- The end of a GET does not depend on where its datapath stands. -/
theorem State.endWith_datapath (s : State) (r : GetResult) (acc raw : Bytes16) (idx oidx : Byte) (fsm : Fsm) :
    { s with acc, raw, idx, oidx, fsm }.endWith r = s.endWith r := by
  cases r with
  | failure k => rfl
  | output v =>
    have hcomm := State.writeRange_comm
      (f := fun s => { s with acc, raw, idx, oidx, fsm })
      (fun _ _ _ => rfl) v s 0 s.len.toNat
    simp only [State.endWith, hcomm]
    rfl

/-! ### Each transition on the way -/

/-- `u` is further on in the same GET than `s`, or still waits there. -/
structure Answers.Advances (a : Answers) (s u : State) : Prop where
  getting : u.Getting
  sameEnd : u.getEnd a = s.getEnd a
  /-- A request counts once it is answered, and then comes off the further ones. -/
  requests : (s.getRest a).2 = (if u.fsm = s.fsm then [] else s.request.toList) ++ (u.getRest a).2

theorem Answers.Advances.refl (h : s.Getting) : a.Advances s s := ⟨h, rfl, by simp⟩

/-- A transition within the rounds, whose answer `GET_ref` has taken in the same way. -/
theorem Answers.Advances.of_rest (acc raw : Bytes16) (idx oidx : Byte) {fsm : Fsm} (hs : s.usesCipher = true)
    (hne : fsm ≠ s.fsm) (hu : { s with acc, raw, idx, oidx, fsm }.usesCipher = true)
    (hg : { s with acc, raw, idx, oidx, fsm }.Getting)
    (hrest : s.getRest a = (({ s with acc, raw, idx, oidx, fsm }.getRest a).1,
      s.request.toList ++ ({ s with acc, raw, idx, oidx, fsm }.getRest a).2)) :
    a.Advances s { s with acc, raw, idx, oidx, fsm } where
  getting := hg
  sameEnd := by rw [State.getEnd_of_usesCipher hs, State.getEnd_of_usesCipher hu, State.endWith_datapath, hrest]
  requests := by rw [if_neg hne, hrest]

/-- A transition by which the GET fails, as `GET_ref` does. -/
theorem Answers.Advances.of_failure (raw : Bytes16) {k : ErrorKind} (hg : s.Getting) (hs : s.usesCipher = true)
    (hrest : s.getRest a = (.failure k, s.request.toList)) :
    a.Advances s ({ s with raw := raw }.finishError k) where
  getting := ⟨hg.entries, nofun, by simp⟩
  sameEnd := by rw [State.getEnd_of_usesCipher hs, hrest]; rfl
  requests := by
    have hne : Fsm.wipe ≠ s.fsm := fun h => by simp [State.usesCipher, ← h] at hs
    rw [State.finishError_fsm, if_neg hne, hrest]
    exact (List.append_nil _).symm

/-- The last round, after which `GET_ref` gives its output. -/
theorem Answers.Advances.of_output {v : Bytes16} (idx : Byte) (hg : s.Getting) (hs : s.usesCipher = true)
    (hrest : s.getRest a = (.output v, s.request.toList)) :
    a.Advances s { s with acc := v, idx := idx, oidx := 0, fsm := .getOut } where
  getting := ⟨hg.entries, nofun, by simp⟩
  sameEnd := by
    rw [State.getEnd_of_usesCipher hs, hrest, ← s.endWith_datapath (.output v) v s.raw idx 0 .getOut]
    rfl
  requests := by
    have hne : Fsm.getOut ≠ s.fsm := fun h => by simp [State.usesCipher, ← h] at hs
    rw [if_neg hne, hrest]
    exact (List.append_nil _).symm

section
variable {i : Inputs}

/-! The answers of an edge are those that `GET_ref` reads. -/

theorem Answers.Allows.keyOk_eq (ha : a.Allows s i) (hf : s.fsm = .getKey) {ok : Bool} {d : Bytes16}
    (hcip : i.cip = some ⟨ok, d⟩) : a.keyOk = ok := by
  obtain ⟨-, -, hkey, -⟩ := ha
  rcases hkey hf with h | ⟨d, h⟩ <;> rw [hcip] at h
  · cases h
  · injection h with h
    injection h with h
    exact h.symm

theorem Answers.Allows.refSample_eq (ha : a.Allows s i) (hf : s.fsm = .getSample) {x : SrcAnswer}
    (hx : s.sampleAnswer i = some x) : s.refSample a s.idx.toNat s.roundPort = x := by
  obtain ⟨-, hsrc, -, -⟩ := ha
  unfold State.sampleAnswer at hx
  unfold State.refSample
  split at hx
  · rcases hsrc hf with h | h <;> rw [hx] at h
    · cases h
    · rw [if_pos ‹_›]
      injection h with h
      exact h.symm
  · rw [if_neg ‹_›]
    injection hx

theorem Answers.Allows.encrypt_eq (ha : a.Allows s i) (hf : s.fsm = .getEnc) {x : CipherAnswer}
    (hcip : i.cip = some x) : a.encrypt s.idx.toNat s.acc = x := by
  obtain ⟨-, -, -, henc⟩ := ha
  rcases henc hf with h | h <;> rw [hcip] at h
  · cases h
  · injection h with h
    exact h.symm

theorem stepGetKey_advances (h : s.Getting) (hf : s.fsm = .getKey) (ha : a.Allows s i) :
    a.Advances s (stepGetKey i s) := by
  have hs : s.usesCipher = true := by simp [State.usesCipher, hf]
  have hreq : s.request = some (.loadKey s.key) := by simp [State.request, hf]
  rcases stepGetKey_cases i s with ⟨-, heq⟩ | ⟨d, hcip, heq⟩ | ⟨d, hcip, heq⟩ <;> rw [heq]
  · exact .refl h
  · refine .of_rest s.acc s.raw s.idx s.oidx hs (by simp [hf]) rfl ⟨h.entries, fun _ => h.round hs, by simp⟩ ?_
    simp [State.getRest, hf, hreq, ha.keyOk_eq hf hcip, State.roundsRest_datapath]
  · refine .of_failure s.raw h hs ?_
    simp [State.getRest, hf, hreq, ha.keyOk_eq hf hcip]

theorem stepGetSample_advances (h : s.Getting) (hf : s.fsm = .getSample) (ha : a.Allows s i) :
    a.Advances s (stepGetSample i s) := by
  have hs : s.usesCipher = true := by simp [State.usesCipher, hf]
  have hreq : s.request.toList = if s.connected s.roundPort then [.sample s.roundPort] else [] := by
    simp only [State.request, hf]
    split <;> rfl
  have hrest : s.getRest a = s.roundsRest a s.idx.toNat s.acc := by simp [State.getRest, hf]
  rcases stepGetSample_cases i s with ⟨-, heq⟩ | ⟨x, hx, hab, heq⟩ | ⟨x, hx, hab, heq⟩ <;> rw [heq]
  · exact .refl h
  · refine .of_failure x.data h hs ?_
    rw [← ha.refSample_eq hf hx] at hab
    rw [hrest, State.roundsRest_abort h.entries (h.round hs) s.acc hab, hreq]
    rfl
  · rw [← ha.refSample_eq hf hx] at hab ⊢
    refine .of_rest s.acc _ s.idx s.oidx hs (by simp [hf]) rfl ⟨h.entries, fun _ => h.round hs, by simp⟩ ?_
    rw [hrest, State.roundsRest_take h.entries (h.round hs) s.acc hab, hreq]
    simp only [State.getRest, State.encryptRest_datapath]
    rfl

theorem stepGetXor_advances (h : s.Getting) (hf : s.fsm = .getXor) : a.Advances s (stepGetXor s) := by
  have hs : s.usesCipher = true := by simp [State.usesCipher, hf]
  refine .of_rest _ s.raw s.idx s.oidx hs (by simp [hf]) rfl ⟨h.entries, fun _ => h.round hs, by simp⟩ ?_
  simp [State.getRest, State.request, hf, State.encryptRest_datapath]

theorem stepGetEnc_advances (h : s.Getting) (hf : s.fsm = .getEnc) (ha : a.Allows s i) :
    a.Advances s (stepGetEnc i s) := by
  have hs : s.usesCipher = true := by simp [State.usesCipher, hf]
  have hreq : s.request = some (.encrypt s.acc) := by simp [State.request, hf]
  have hrest : s.getRest a = s.encryptRest a s.idx.toNat s.acc := by simp [State.getRest, hf]
  have hround := h.round hs
  have hnext : (s.idx + 1).toNat = s.idx.toNat + 1 := by bv_omega
  rcases stepGetEnc_cases i s with ⟨-, heq⟩ | ⟨d, hcip, hi, heq⟩ | ⟨d, hcip, hi, heq⟩ | ⟨d, hcip, heq⟩ <;> rw [heq]
  · exact .refl h
  · refine .of_rest d s.raw _ s.oidx hs (by simp [hf]) rfl ⟨h.entries, fun _ => hnext.trans_lt hi, by simp⟩ ?_
    rw [hrest]
    simp only [State.encryptRest, State.getRest, ha.encrypt_eq hf hcip, hreq, hnext, State.roundsRest_datapath,
      if_true]
    rfl
  · refine .of_output _ h hs ?_
    simp [hrest, State.encryptRest, ha.encrypt_eq hf hcip, hreq, State.roundsRest_last hi]
  · refine .of_failure s.raw h hs ?_
    simp [hrest, State.encryptRest, ha.encrypt_eq hf hcip, hreq]

theorem stepGetOut_advances (h : s.Getting) (hf : s.fsm = .getOut) : a.Advances s (stepGetOut s) := by
  have hrest : (s.getRest a).2 = [] := by simp [State.getRest, hf]
  have hreq : s.request = none := by simp [State.request, hf]
  rcases stepGetOut_cases s with ⟨hlt, heq⟩ | ⟨hle, heq⟩ <;> rw [heq]
  · refine ⟨⟨h.entries, h.round, h.started⟩, ?_, by simp [State.getRest, hf]⟩
    have hnext : (s.oidx + 1).toNat = s.oidx.toNat + 1 := by bv_omega
    have hleft : s.len.toNat - s.oidx.toNat = s.len.toNat - (s.oidx.toNat + 1) + 1 := by omega
    rw [State.getEnd_of_getOut hf, State.getEnd_of_getOut (by exact hf), hleft, State.writeRange_succ,
      BitVec.ofNat_toNat, BitVec.setWidth_eq]
    simp only [hnext]
    have hcomm := State.writeRange_comm (f := fun s => { s with oidx := s.oidx + 1 })
      (fun _ _ _ => rfl) s.acc (s.writeOut s.oidx (byteAt s.acc s.oidx.toNat)) (s.oidx.toNat + 1)
      (s.len.toNat - (s.oidx.toNat + 1))
    exact (congrArg (fun u => (State.finish u s.len causeNone).wipe) hcomm).trans rfl
  · refine ⟨⟨h.entries, nofun, by simp⟩, ?_, by simp [State.getRest, hf, hreq]⟩
    have hzero : s.len.toNat - s.oidx.toNat = 0 := Nat.sub_eq_zero_of_le hle
    rw [State.getEnd_of_getOut hf, hzero]
    rfl

/-- Every transition of a running GET, under any answers that it may get. -/
theorem stepBusy_advances (h : s.Getting) (hf : s.fsm ≠ .respond) (ha : a.Allows s i) :
    a.Advances s (stepBusy i s) := by
  obtain ⟨hidle, hinit⟩ := h.started
  cases hs : s.fsm with
  | idle => exact absurd hs hidle
  | initAdd => exact absurd hs hinit
  | respond => exact absurd hs hf
  | getKey => rw [stepBusy_getKey i hs]; exact stepGetKey_advances h hs ha
  | getSample => rw [stepBusy_getSample i hs]; exact stepGetSample_advances h hs ha
  | getXor => rw [stepBusy_getXor i hs]; exact stepGetXor_advances h hs
  | getEnc => rw [stepBusy_getEnc i hs]; exact stepGetEnc_advances h hs ha
  | getOut => rw [stepBusy_getOut i hs]; exact stepGetOut_advances h hs
  | wipe =>
    rw [stepBusy_wipe i hs]
    exact ⟨⟨h.entries, nofun, by simp⟩, by simp [State.getEnd, hs], by simp [State.getRest, State.request, hs]⟩

end

/-! ### From acceptance to the response -/

/-- A run keeps the end of its GET, and its log and the further requests add up. -/
theorem GetRun.advances {log : List Request} (run : GetRun a s t log) (h : s.Getting) :
    t.Getting ∧ t.getEnd a = s.getEnd a ∧ log ++ (t.getRest a).2 = (s.getRest a).2 := by
  induction run with
  | start => exact ⟨h, rfl, rfl⟩
  | @edge t log i run busy pending allowed ih =>
    obtain ⟨ht, hend, hlog⟩ := ih
    obtain ⟨hu, hend', hreq⟩ := stepBusy_advances ht pending allowed
    refine ⟨hu, hend'.trans hend, ?_⟩
    rw [← hlog, hreq]
    split <;> simp

theorem State.startGet_getting (h : s.Inv) (hc : s.count ≠ 0) (n : Byte) : (s.startGet n).Getting where
  entries := h.entries ▸ h.countBound
  round := fun _ => Nat.pos_of_ne_zero fun h0 => hc (BitVec.eq_of_toNat_eq h0)
  started := by simp

/-- At acceptance what is to be done is `GET_ref`. -/
theorem State.getRest_startGet (s : State) (a : Answers) (n : Byte) :
    (s.startGet n).getRest a = (s.getRef a, s.getRefRequests a) := by
  have hrounds : (s.startGet n).roundsRest a 0 zero16 = s.roundsRest a 0 zero16 :=
    State.roundsRest_congr (s := s.startGet n) (t := s) rfl rfl _ _
  unfold State.getRest State.getRef State.getRefRequests
  simp only [State.startGet_fsm]
  cases hk : a.keyOk
  · rfl
  · exact congrArg (fun r : GetResult × List Request => (r.1, Request.loadKey s.key :: r.2)) hrounds

/-- From an idle block, whose datapath is clear, the end of the GET is what `GET_ref` says. -/
theorem State.endWith_startGet (h : s.Inv) (hf : s.fsm = .idle) (n : Byte) (r : GetResult) :
    (s.startGet n).endWith r = s.afterGet n r := by
  obtain ⟨hacc, hraw, hidx, hoidx, hlen⟩ := h.datapathClear_idle hf
  cases r with
  | failure k => simp [State.endWith, State.afterGet, State.finishError, State.respondError, State.finish,
      State.respond, State.wipe, State.startGet, hacc, hraw, hidx, hoidx, hlen]
  | output v =>
    have hcomm := State.writeRange_comm (f := fun s => s.startGet n) (fun _ _ _ => rfl) v s 0 n.toNat
    rw [State.endWith, State.startGet_len, hcomm, ← State.writeBytes_eq_writeRange, State.afterGet,
      s.writeBytes_frame]
    simp [State.finish, State.respond, State.wipe, State.startGet, hacc, hraw, hidx, hoidx, hlen]

theorem State.getEnd_startGet (h : s.Inv) (hf : s.fsm = .idle) (n : Byte) :
    (s.startGet n).getEnd a = s.afterGet n (s.getRef a) := by
  rw [State.getEnd_of_usesCipher rfl, State.getRest_startGet, State.endWith_startGet h hf]

/-- A GET whose response is valid has done what `GET_ref` says. -/
theorem GetRun.of_respond (h : s.Inv) (hf : s.fsm = .idle) (hc : s.count ≠ 0) {n : Byte} {log : List Request}
    (run : GetRun a (s.startGet n) t log) (ht : t.fsm = .respond) :
    t = s.afterGet n (s.getRef a) ∧ log = s.getRefRequests a := by
  obtain ⟨-, hend, hlog⟩ := run.advances (State.startGet_getting h hc n)
  rw [State.getEnd_startGet h hf] at hend
  rw [State.getRest_startGet] at hlog
  simp only [State.getEnd, State.getRest, ht, List.append_nil] at hend hlog
  exact ⟨hend, hlog⟩

end

end Sys2Proof.Machine
end

section
/-! A GET comes to its response, by the number of transitions that are left; and GETs under the same answers come to
the same (R140, R141). -/

namespace Sys2Proof.Machine

section
variable {s t : State} {a : Answers}

/-! ### How many transitions are left (R246) -/

/-- The transitions to the response when every answer comes at once and the GET does not fail. -/
def State.stepsLeft (s : State) : Nat :=
  match s.fsm with
  | .getKey => 3 * (s.count.toNat - s.idx.toNat) + s.len.toNat + 3
  | .getSample => 3 * (s.count.toNat - s.idx.toNat) + s.len.toNat + 2
  | .getXor => 3 * (s.count.toNat - s.idx.toNat) + s.len.toNat + 1
  | .getEnc => 3 * (s.count.toNat - s.idx.toNat) + s.len.toNat
  | .getOut => s.len.toNat - s.oidx.toNat + 2
  | .wipe => 1
  | .idle | .initAdd | .respond => 0

/-- The inputs withhold no answer that the state waits for. -/
def Inputs.Serve (i : Inputs) (s : State) : Prop :=
  (s.fsm = .getSample → s.sampleAnswer i ≠ none) ∧ (s.fsm = .getKey ∨ s.fsm = .getEnc → i.cip ≠ none)

/-- Each transition is one step nearer to the response, unless the GET fails there. -/
theorem stepBusy_stepsLeft {i : Inputs} (h : s.Getting) (hf : s.fsm ≠ .respond) (hi : i.Serve s) :
    (stepBusy i s).stepsLeft + 1 = s.stepsLeft ∨
      (∃ u k, stepBusy i s = State.finishError u k) ∧ (stepBusy i s).stepsLeft < s.stepsLeft := by
  obtain ⟨hsrc, hcip⟩ := hi
  obtain ⟨hidle, hinit⟩ := h.started
  cases hs : s.fsm with
  | idle => exact absurd hs hidle
  | initAdd => exact absurd hs hinit
  | respond => exact absurd hs hf
  | getKey =>
    rw [stepBusy_getKey i hs]
    rcases stepGetKey_cases i s with ⟨hn, -⟩ | ⟨d, -, heq⟩ | ⟨d, -, heq⟩
    · exact absurd hn (hcip (.inl hs))
    · left; simp [heq, State.stepsLeft, hs]
    · right; exact ⟨⟨_, _, heq⟩, by simp [heq, State.stepsLeft, hs]⟩
  | getSample =>
    rw [stepBusy_getSample i hs]
    rcases stepGetSample_cases i s with ⟨hn, -⟩ | ⟨x, -, -, heq⟩ | ⟨x, -, -, heq⟩
    · exact absurd hn (hsrc hs)
    · right; exact ⟨⟨_, _, heq⟩, by simp [heq, State.stepsLeft, hs]⟩
    · left; simp [heq, State.stepsLeft, hs]
  | getXor => left; simp [stepBusy_getXor i hs, stepGetXor, State.stepsLeft, hs]
  | getEnc =>
    have hround := h.round (by simp [State.usesCipher, hs])
    have hnext : (s.idx + 1).toNat = s.idx.toNat + 1 := by bv_omega
    rw [stepBusy_getEnc i hs]
    rcases stepGetEnc_cases i s with ⟨hn, -⟩ | ⟨d, -, hlt, heq⟩ | ⟨d, -, hle, heq⟩ | ⟨d, -, heq⟩
    · exact absurd hn (hcip (.inr hs))
    · left; simp only [heq, State.stepsLeft, hs, hnext]; omega
    · left; simp only [heq, State.stepsLeft, hs]; bv_omega
    · right; exact ⟨⟨_, _, heq⟩, by simp only [heq, State.stepsLeft, State.finishError_fsm, hs]; omega⟩
  | getOut =>
    rw [stepBusy_getOut i hs]
    rcases stepGetOut_cases s with ⟨hlt, heq⟩ | ⟨hle, heq⟩
    · have hnext : (s.oidx + 1).toNat = s.oidx.toNat + 1 := by bv_omega
      left; simp only [heq, State.stepsLeft, hs, State.writeOut_fsm, State.writeOut_len, hnext]; omega
    · left; simp only [heq, State.stepsLeft, State.finish_fsm, hs]; omega
  | wipe => left; simp [stepBusy_wipe i hs, State.stepsLeft, hs]

/-- In a running GET no transition is left only at the response. -/
theorem State.Getting.fsm_of_stepsLeft (h : s.Getting) (h0 : s.stepsLeft = 0) : s.fsm = .respond := by
  obtain ⟨hidle, hinit⟩ := h.started
  unfold State.stepsLeft at h0
  cases hs : s.fsm with
  | respond => rfl
  | idle => exact absurd hs hidle
  | initAdd => exact absurd hs hinit
  | getEnc =>
    have hround := h.round (by simp [State.usesCipher, hs])
    simp only [hs] at h0
    omega
  | getKey | getSample | getXor | getOut | wipe => simp [hs] at h0

/-! ### Such a run exists -/

/-- The inputs that give a state at once the answer it waits for. -/
def Answers.inputsFor (a : Answers) (s : State) : Inputs where
  rst := false
  cmd := none
  rspReady := false
  src := fun _ => some (a.sample s.idx.toNat)
  cip := some (if s.fsm = .getKey then ⟨a.keyOk, zero16⟩ else a.encrypt s.idx.toNat s.acc)

theorem Answers.inputsFor_allows (a : Answers) (s : State) : a.Allows s (a.inputsFor s) :=
  ⟨rfl, fun _ => .inr rfl, fun hf => .inr ⟨zero16, by simp [Answers.inputsFor, hf]⟩,
    fun hf => .inr (by simp [Answers.inputsFor, hf])⟩

theorem Answers.inputsFor_serve (a : Answers) (s : State) : (a.inputsFor s).Serve s :=
  ⟨fun _ => by unfold State.sampleAnswer; split <;> exact Option.some_ne_none _, fun _ => Option.some_ne_none _⟩

/-- A run goes on to its response. -/
theorem GetRun.exists_respond {log : List Request} (run : GetRun a s t log) (h : t.Getting) :
    ∃ u log', GetRun a s u log' ∧ u.fsm = .respond := by
  induction hn : t.stepsLeft using Nat.strong_induction_on generalizing t log with
  | _ n ih =>
    by_cases hf : t.fsm = .respond
    · exact ⟨t, log, run, hf⟩
    · have hal := a.inputsFor_allows t
      have hlt : (stepBusy (a.inputsFor t) t).stepsLeft < n := by
        rcases stepBusy_stepsLeft h hf (a.inputsFor_serve t) with hstep | ⟨-, hstep⟩ <;> omega
      exact ih _ hlt (run.edge h.started.1 hf hal) (stepBusy_advances h hf hal).getting rfl

/-! ### Two GETs under the same answers (R141) -/

theorem State.registered_congr (hsrc : s.src = t.src) (hcount : s.count = t.count) :
    s.registered = t.registered := by
  unfold State.registered
  rw [hsrc, hcount]

theorem State.getRef_congr (hcfg : s.cfg = t.cfg) (hreg : s.registered = t.registered) :
    s.getRef a = t.getRef a := by
  unfold State.getRef
  rw [hreg, State.refRounds_congr hcfg]

theorem State.getRefRequests_congr (hcfg : s.cfg = t.cfg) (hreg : s.registered = t.registered) :
    s.getRefRequests a = t.getRefRequests a := by
  unfold State.getRefRequests
  rw [hreg, State.refRequests_congr hcfg]
  rfl

/-- The response of a GET is that of its result. -/
theorem State.afterGet_rsp (s t : State) (n : Byte) (r : GetResult) :
    (s.afterGet n r).rsp = (t.afterGet n r).rsp := by
  cases r <;> rfl

/-- A response that says `n` bytes is that of an output. -/
theorem State.afterGet_success {n : Byte} {r : GetResult} (h : (s.afterGet n r).rsp = responseWord n causeNone) :
    ∃ v, r = .output v := by
  cases r with
  | output v => exact ⟨v, rfl⟩
  | failure k => exact absurd h.symm (responseWord_ne_errorWord n k)

/-- Byte `j` of the output as the host finds it. -/
theorem State.afterGet_read (s : State) {n : Byte} (hn : n.toNat ≤ 16) (v : Bytes16) {j : Nat} (hj : j < n.toNat) :
    (s.afterGet n (.output v)).hostMem.read (s.outBase + j) = some (byteAt v j) := by
  rw [State.afterGet, State.respond_hostMem, s.writeBytes_read v n.toNat hn, if_pos ⟨by omega, by omega⟩,
    Nat.add_sub_cancel_left]

end

/-! ### Every run and its end -/

/-- Settles O28: a run exists, and by the end that every transition keeps all runs end as `GET_ref` says. -/
theorem getFollowsReference : Obligations.GetFollowsReference := by
  intro s n a h hf hn hc
  refine ⟨s.startGet n, exec_get_of_pass hn hc, ?_, fun _ _ => GetRun.of_respond h hf hc⟩
  obtain ⟨u, log, run, hu⟩ := (GetRun.start (a := a) (s.startGet n)).exists_respond (State.startGet_getting h hc n)
  obtain ⟨rfl, rfl⟩ := run.of_respond h hf hc hu
  exact run

/-- Settles O52: both have done what `GET_ref` says, which depends on the configuration and the registry only. -/
theorem determinismUnderFixedSources : Obligations.DeterminismUnderFixedSources := by
  intro s t u v n a log log' hs ht hfs hft hcfg hsrc hcount hn hc run run' hu hv
  obtain ⟨rfl, rfl⟩ := run.of_respond hs hfs hc hu
  obtain ⟨rfl, rfl⟩ := run'.of_respond ht hft (hcount ▸ hc) hv
  have hreg := State.registered_congr hsrc hcount
  obtain ⟨-, -, hmax, -⟩ := Config.bounds hs.config
  rw [← State.getRef_congr hcfg hreg, ← State.getRefRequests_congr hcfg hreg]
  refine ⟨State.afterGet_rsp .., rfl, fun hrsp j hj => ?_⟩
  obtain ⟨w, hw⟩ := State.afterGet_success hrsp
  rw [hw, s.afterGet_read (hn.trans hmax) w hj, t.afterGet_read (hn.trans hmax) w hj]
  exact ⟨rfl, rfl⟩

end Sys2Proof.Machine
end

section
/-! A GET over stubs and a cipher that answers at once, through the whole machine (R131, R246): its answers are known,
and the agents do not reach the end that each transition keeps. -/

namespace Sys2Proof.Machine

/-! ### The end of a GET and the agents -/

/-- The block and the host's memory, with the agents and the inputs still to come blanked. -/
def State.block (s : State) : State :=
  { s with jitter := TimerJitter.atRest, cipher := { key := none, lastBlock := none }, script := [], edgeNo := 0 }

section
variable {s : State} (a : Answers)

theorem State.worldNext_block (e : Edge) (hf : s.fsm ≠ .idle) : (s.worldNext e).block = s.block := by
  simp [State.block, State.worldNext, hf]

theorem State.getRest_block : s.block.getRest a = s.getRest a := by
  have hrounds : ∀ i v, s.block.roundsRest a i v = s.roundsRest a i v :=
    State.roundsRest_congr (s := s.block) (t := s) rfl rfl
  have henc : ∀ i v, s.block.encryptRest a i v = s.encryptRest a i v := fun i v => by
    simp only [State.encryptRest, hrounds]
  have hfsm : s.block.fsm = s.fsm := rfl
  simp only [State.getRest, hrounds, henc, hfsm]
  rfl

theorem State.writeRange_block (v : Bytes16) (j k : Nat) :
    s.block.writeRange v j k = (s.writeRange v j k).block := State.writeRange_comm (fun _ _ _ => rfl) v s j k

theorem State.wipe_block : s.block.wipe = s.wipe.block := rfl

theorem State.endWith_block (r : GetResult) : s.block.endWith r = (s.endWith r).block := by
  cases r with
  | output v => exact congrArg (fun u => (State.finish u s.len causeNone).wipe) (s.writeRange_block v 0 s.len.toNat)
  | failure k => rfl

theorem State.getEnd_block : s.block.getEnd a = (s.getEnd a).block := by
  have hfsm : s.block.fsm = s.fsm := rfl
  cases hf : s.fsm with
  | getKey | getSample | getXor | getEnc =>
    have hs : s.usesCipher = true := by simp [State.usesCipher, hf]
    rw [State.getEnd_of_usesCipher hs, State.getEnd_of_usesCipher (s := s.block) hs, State.getRest_block,
      State.endWith_block]
  | getOut =>
    rw [State.getEnd_of_getOut hf, State.getEnd_of_getOut (s := s.block) hf]
    exact congrArg (fun u => (State.finish u s.len causeNone).wipe) (s.writeRange_block s.acc _ _)
  | idle | initAdd | wipe | respond =>
    simp only [State.getEnd, hfsm, hf, State.wipe_block]

theorem State.getEnd_worldNext (e : Edge) (hf : s.fsm ≠ .idle) :
    ((s.worldNext e).getEnd a).block = (s.getEnd a).block := by
  rw [← State.getEnd_block, State.worldNext_block e hf, State.getEnd_block]

/-- What neither the output nor the end of a GET writes. -/
theorem State.getEnd_eq_of_frame {α : Type} (g : State → α) (hout : ∀ s j b, g (State.writeOut s j b) = g s)
    (hend : ∀ s code cause, g (State.finish s code cause) = g s) (hwipe : ∀ s, g (State.wipe s) = g s) :
    g (s.getEnd a) = g s := by
  have hrange : ∀ (k : Nat) (s : State) (v : Bytes16) (j : Nat), g (s.writeRange v j k) = g s := by
    intro k
    induction k with
    | zero => exact fun _ _ _ => rfl
    | succ k ih => exact fun s v j => (ih _ v (j + 1)).trans (hout s _ _)
  have hwith : ∀ r, g (s.endWith r) = g s := by
    rintro (v | k)
    · exact (hwipe _).trans ((hend _ _ _).trans (hrange _ _ _ _))
    · exact (hwipe _).trans (hend _ _ _)
  unfold State.getEnd
  cases s.fsm with
  | getKey | getSample | getXor | getEnc => exact hwith _
  | getOut => exact (hwipe _).trans ((hend _ _ _).trans (hrange _ _ _ _))
  | wipe => exact hwipe _
  | idle | initAdd | respond => rfl

end

/-! ### The answers of stubs and of a cipher that serves -/

/-- What the stubs and the cipher answer in a GET. -/
def State.stubAnswers (s : State) : Answers where
  keyOk := true
  sample i := ⟨16, s.stubBytes (s.srcAt i)⟩
  encrypt _ b := ⟨true, cipherPerm s.cfg.cipher keyRom b⟩

section
variable {s : State} {e : Edge}

theorem State.cipherAnswer_of_serves (he : edgeServes e) :
    s.cipherAnswer e.cipher = some ⟨true, s.cipherData e.cipher⟩ := by
  obtain ⟨-, hans, hok⟩ := he
  simp [State.cipherAnswer, hans, hok]

/-- With the key loaded the cipher answers `E_KEY(ACC)` (R181). -/
theorem State.cipherData_of_getEnc (he : edgeServes e) (hf : s.fsm = .getEnc) (hkey : s.cipher.key = some s.key) :
    s.cipherData e.cipher = cipherPerm s.cfg.cipher keyRom s.acc := by
  obtain ⟨-, -, hok⟩ := he
  simp [State.cipherData, State.cipReq, hf, hkey, hok, State.key]

theorem State.roundPort_mem_registered (hl : s.count.toNat ≤ s.src.length) (hi : s.idx.toNat < s.count.toNat) :
    s.roundPort ∈ s.registered := by
  have hmem : s.roundPort ∈ s.registered.drop s.idx.toNat := by
    rw [State.registered_drop hl hi]
    exact List.mem_cons_self
  exact List.mem_of_mem_drop hmem

/-- A stub answers the request of its round at once (R172). -/
theorem State.portAnswer_of_stub (hstub : s.AllStubs) (hf : s.fsm = .getSample) (hmem : s.roundPort ∈ s.registered) :
    s.portAnswer e s.roundPort = some ⟨16, s.stubBytes s.roundPort⟩ := by
  obtain ⟨hc, hp⟩ := hstub _ hmem
  have hreq : s.srcReq s.roundPort = true := State.srcReq_iff.2 ⟨hf, rfl, hc⟩
  simp [State.portAnswer, hp, hreq]

/-- At an edge that serves the cipher a GET over stubs has the answers of its stubs. -/
theorem State.stubAnswers_allows (h : s.Inv) (hg : s.Getting) (hstub : s.AllStubs) (he : edgeServes e) :
    s.stubAnswers.Allows (s.worldNext e) (s.inputsAt e) := by
  refine ⟨he.1, fun hf => .inr ?_, fun _ => .inr ⟨_, State.cipherAnswer_of_serves he⟩, fun hf => .inr ?_⟩
  · have hf : s.fsm = .getSample := hf
    have hround := hg.round (by simp [State.usesCipher, hf])
    exact State.portAnswer_of_stub hstub hf (State.roundPort_mem_registered hg.entries hround)
  · have hf : s.fsm = .getEnc := hf
    obtain ⟨-, -, -, hkey⟩ := h.phase_round (.inr (.inr hf))
    rw [State.inputsAt_cip, State.cipherAnswer_of_serves he, State.cipherData_of_getEnc he hf hkey]
    rfl

theorem State.inputsAt_serve (hg : s.Getting) (hstub : s.AllStubs) (he : edgeServes e) :
    (s.inputsAt e).Serve (s.worldNext e) := by
  refine ⟨fun hf => ?_, fun _ => ?_⟩
  · have hf : s.fsm = .getSample := hf
    have hround := hg.round (by simp [State.usesCipher, hf])
    have hmem := State.roundPort_mem_registered hg.entries hround
    have hans : (s.worldNext e).sampleAnswer (s.inputsAt e) = s.portAnswer e s.roundPort :=
      State.sampleAnswer_of_connected (hstub _ hmem).1
    rw [hans, State.portAnswer_of_stub hstub hf hmem]
    exact Option.some_ne_none _
  · rw [State.inputsAt_cip, State.cipherAnswer_of_serves he]
    exact Option.some_ne_none _

/-- `GET_ref` over stubs gives the cascade (R131). -/
theorem State.refRounds_stub (hl : s.count.toNat ≤ s.src.length) (hstub : s.AllStubs) {ps : List Byte} {i : Nat}
    (hps : s.registered.drop i = ps) (acc : Bytes16) :
    s.refRounds s.stubAnswers ps i acc = .output (cascade s.cfg.cipher s.stubBytes ps acc) := by
  induction ps generalizing i acc with
  | nil => rfl
  | cons p ps ih =>
    have hi : i < s.count.toNat := by
      by_contra hge
      have hnil : s.registered.drop i = [] :=
        List.drop_eq_nil_of_le ((List.length_take_le _ _).trans (Nat.not_lt.1 hge))
      simp [hnil] at hps
    rw [State.registered_drop hl hi] at hps
    obtain ⟨hp, hps⟩ := List.cons.inj hps
    have hmem : p ∈ s.registered := by
      have hdrop := State.registered_drop hl hi
      rw [hp] at hdrop
      exact List.mem_of_mem_drop (hdrop ▸ List.mem_cons_self)
    have hsample : s.refSample s.stubAnswers i p = ⟨16, s.stubBytes p⟩ := by
      rw [State.refSample, if_pos (hstub p hmem).1, ← hp]
      rfl
    have hok : ¬s.abortsOn 16 = true := Bool.not_eq_true _ ▸ State.abortsOn_eq_false_iff.2 (.inr (by decide))
    rw [State.refRounds, hsample, if_neg hok]
    exact ih hps _

theorem State.getRef_stub (hl : s.count.toNat ≤ s.src.length) (hstub : s.AllStubs) :
    s.getRef s.stubAnswers = .output (cascade s.cfg.cipher s.stubBytes s.registered zero16) :=
  State.refRounds_stub hl hstub List.drop_zero zero16

end

/-! ### The run -/

/-- The machine is in the GET that it started over stubs in the state `b`. -/
structure State.StubRun (b t : State) : Prop where
  inv : t.Inv
  getting : t.Getting
  sameEnd : (t.getEnd b.stubAnswers).block = (b.getEnd b.stubAnswers).block

section
variable {b t : State}

/-- What a GET reads but never writes. -/
def State.registry (s : State) : Config × List Byte × Byte := (s.cfg, s.src, s.count)

theorem State.StubRun.registry_eq (h : b.StubRun t) : t.registry = b.registry := by
  have hend : ∀ s : State, (s.getEnd b.stubAnswers).registry = s.registry := fun _ =>
    State.getEnd_eq_of_frame _ State.registry (fun _ _ _ => rfl) (fun _ _ _ => rfl) fun _ => rfl
  calc t.registry
      = (t.getEnd b.stubAnswers).block.registry := (hend t).symm
    _ = (b.getEnd b.stubAnswers).block.registry := by rw [h.sameEnd]
    _ = b.registry := hend b

theorem State.stubAnswers_congr (h : t.registry = b.registry) : t.stubAnswers = b.stubAnswers := by
  simp only [State.registry, Prod.mk.injEq] at h
  obtain ⟨hcfg, hsrc, -⟩ := h
  simp only [State.stubAnswers, State.stubBytes, State.srcAt, hcfg, hsrc]

theorem State.allStubs_congr (h : t.registry = b.registry) (hb : b.AllStubs) : t.AllStubs := by
  simp only [State.registry, Prod.mk.injEq] at h
  obtain ⟨hcfg, hsrc, hcount⟩ := h
  unfold State.AllStubs State.connected State.stubBytes at hb ⊢
  rwa [State.registered_congr hsrc hcount, hcfg]

/-- One step of the run, which cannot be one at which the GET fails. -/
theorem State.StubRun.step {n : Byte} (hb : b.AllStubs)
    (hout : (b.getEnd b.stubAnswers).rsp = responseWord n causeNone) (h : b.StubRun t) (hf : t.fsm ≠ .respond)
    (he : edgeServes t.nextEdge) :
    ∃ u, Machine.step t = .next u ∧ b.StubRun u ∧ u.stepsLeft + 1 = t.stepsLeft ∧ u.script = t.script.tail := by
  have hstub := State.allStubs_congr h.registry_eq hb
  have hworld : (t.worldNext t.nextEdge).Getting := ⟨h.getting.entries, h.getting.round, h.getting.started⟩
  have hs := step_of_busy h.getting.started.1 he.1
  have hadv := stepBusy_advances hworld hf
    (State.stubAnswers_congr h.registry_eq ▸ State.stubAnswers_allows h.inv h.getting hstub he)
  have hsteps := stepBusy_stepsLeft hworld hf (State.inputsAt_serve h.getting hstub he)
  have hu : b.StubRun (stepBusy (t.inputsAt t.nextEdge) (t.worldNext t.nextEdge)) :=
    ⟨stepKeepsInvariant t _ h.inv hs, hadv.getting,
      by rw [hadv.sameEnd, State.getEnd_worldNext _ _ h.getting.started.1, h.sameEnd]⟩
  refine ⟨_, hs, hu, ?_, ?_⟩
  · rcases hsteps with hstep | ⟨⟨v, k, hfail⟩, -⟩
    · exact hstep
    · have hrsp : errorWord k = responseWord n causeNone :=
        calc errorWord k
            = ((v.finishError k).getEnd b.stubAnswers).block.rsp := rfl
          _ = (b.getEnd b.stubAnswers).block.rsp := by rw [← hfail, hu.sameEnd]
          _ = responseWord n causeNone := hout
      exact absurd hrsp.symm (responseWord_ne_errorWord n k)
  · have hscript : ∀ s : State, (s.getEnd b.stubAnswers).script = s.script := fun _ =>
      State.getEnd_eq_of_frame _ State.script (fun _ _ _ => rfl) (fun _ _ _ => rfl) fun _ => rfl
    rw [← hscript, hadv.sameEnd, hscript, State.worldNext_script]

theorem State.nextEdge_of_script {e : Edge} {es : List Edge} (h : t.script = e :: es) : t.nextEdge = e := by
  simp only [State.nextEdge, h]

theorem run_succ {u : State} (h : Machine.step t = .next u) (k : Nat) :
    Host.Core.run Sys2Proof.core (k + 1) t = Host.Core.run Sys2Proof.core k u := by
  have hcore : Sys2Proof.core.step t = .next u := h
  simp only [Host.Core.run, hcore]

/-- The whole run, in as many steps as are left. -/
theorem State.StubRun.run {n : Byte} (hb : b.AllStubs)
    (hout : (b.getEnd b.stubAnswers).rsp = responseWord n causeNone) {k : Nat} (h : b.StubRun t)
    (hk : t.stepsLeft = k) (hlen : k ≤ t.script.length) (he : ∀ e ∈ t.script.take k, edgeServes e) :
    ∃ u, Host.Core.run Sys2Proof.core k t = .next u ∧ b.StubRun u ∧ u.fsm = .respond := by
  induction k generalizing t with
  | zero => exact ⟨t, rfl, h, h.getting.fsm_of_stepsLeft hk⟩
  | succ k ih =>
    have hf : t.fsm ≠ .respond := fun hf => by simp [State.stepsLeft, hf] at hk
    obtain ⟨e, es, hscript⟩ := List.exists_cons_of_length_pos (Nat.lt_of_lt_of_le (Nat.succ_pos k) hlen)
    rw [hscript, List.take_succ_cons] at he
    obtain ⟨he, hes⟩ := List.forall_mem_cons.1 he
    obtain ⟨u, hs, hu, hsteps, htail⟩ := h.step hb hout hf (State.nextEdge_of_script hscript ▸ he)
    rw [hscript, List.tail_cons] at htail
    rw [hscript, List.length_cons] at hlen
    rw [run_succ hs]
    exact ih hu (by omega) (by rw [htail]; omega) (by rwa [htail])

end

section
variable {s : State}

/-- The state in which the response of a GET over stubs is valid. -/
theorem State.getEnd_stub (h : s.Inv) (hf : s.fsm = .idle) (hstub : s.AllStubs) (n : Byte) :
    (s.startGet n).getEnd (s.startGet n).stubAnswers =
      s.afterGet n (.output (cascade s.cfg.cipher s.stubBytes s.registered zero16)) := by
  rw [State.getEnd_startGet h hf]
  exact congrArg (s.afterGet n) (State.getRef_stub (h.entries ▸ h.countBound) hstub)

/-- A GET over stubs from its acceptance to its response. -/
theorem State.run_startGet_stub {n : Byte} (h : s.Inv) (hf : s.fsm = .idle) (hstub : s.AllStubs)
    (hn : n.toNat ≤ s.cfg.maxBytesRequest) (hc : s.count ≠ 0)
    (hlen : 3 + 3 * s.count.toNat + n.toNat ≤ s.script.length)
    (he : ∀ e ∈ s.script.take (3 + 3 * s.count.toNat + n.toNat), edgeServes e) :
    ∃ u : State, Host.Core.run Sys2Proof.core (3 + 3 * s.count.toNat + n.toNat) (s.startGet n) = .next u ∧
      u.Inv ∧ u.fsm = .respond ∧
      u.block = (s.afterGet n (.output (cascade s.cfg.cipher s.stubBytes s.registered zero16))).block := by
  have hend := State.getEnd_stub h hf hstub n
  have hstart : (s.startGet n).StubRun (s.startGet n) :=
    ⟨h.startGet hf ((s.getCheck_none_iff n).2 ⟨hn, hc⟩), State.startGet_getting h hc n, rfl⟩
  have hsteps : (s.startGet n).stepsLeft = 3 + 3 * s.count.toNat + n.toNat := by
    simp only [State.stepsLeft, State.startGet_fsm, State.startGet_count, State.startGet_idx, State.startGet_len]
    bv_omega
  obtain ⟨u, hrun, hu, hresp⟩ := State.StubRun.run (b := s.startGet n) (n := n) hstub (by rw [hend]; rfl) hstart
    hsteps hlen he
  have hsame := hu.sameEnd
  rw [hend] at hsame
  simp only [State.getEnd, hresp] at hsame
  exact ⟨u, hrun, hu.inv, hresp, hsame⟩

/-- The host's memory after an output, outside the bytes of the output. -/
theorem State.afterGet_read_other (s : State) {n : Byte} (hn : n.toNat ≤ 16) (v : Bytes16) {x : Nat}
    (hx : ∀ j, j < n.toNat → x ≠ s.outBase + j) :
    (s.afterGet n (.output v)).hostMem.read x = s.hostMem.read x := by
  have hout : ¬(s.outBase ≤ x ∧ x < s.outBase + n.toNat) := fun ⟨hle, hlt⟩ =>
    hx (x - s.outBase) (by omega) (by omega)
  rw [State.afterGet, State.respond_hostMem, s.writeBytes_read v n.toNat hn, if_neg hout]

theorem State.afterGet_output_frame (s : State) (n : Byte) (v : Bytes16) :
    (s.afterGet n (.output v)).src = s.src ∧ (s.afterGet n (.output v)).count = s.count ∧
      (s.afterGet n (.output v)).outBase = s.outBase := by
  rw [State.afterGet, s.writeBytes_frame]
  exact ⟨rfl, rfl, rfl⟩

end

/-- Settles O29: the first step accepts the GET, and the run over stubs that follows ends as `GET_ref` says. -/
theorem stubGetWritesCascade : Obligations.StubGetWritesCascade := by
  intro s e rest n h hf hstub hn hc hscript hcmd hlen hrst hserves
  obtain ⟨-, -, hmax, -⟩ := Config.bounds h.config
  have hedge := State.nextEdge_of_script hscript
  have hs : step s = .next ((s.worldNext e).startGet n) := by
    rw [stepRunsDecodedCommand s _ (.get n) hf (hedge ▸ hrst) (hedge ▸ hcmd) (decode_encode _), hedge]
    exact exec_get_of_pass hn hc
  have htail : (s.worldNext e).script = rest := by rw [State.worldNext_script, hscript, List.tail_cons]
  obtain ⟨u, hrun, hinv, hresp, hblock⟩ :=
    State.run_startGet_stub (h.worldNext e) hf hstub hn hc (htail ▸ hlen) (htail ▸ hserves)
  have hfield {α : Type} (g : State → α) (hg : ∀ s, g (State.block s) = g s) :
      g u = g ((s.worldNext e).afterGet n (.output (cascade s.cfg.cipher s.stubBytes s.registered zero16))) := by
    rw [← hg u, hblock, hg]
    rfl
  obtain ⟨hsrc, hcount, hbase⟩ := (s.worldNext e).afterGet_output_frame n
    (cascade s.cfg.cipher s.stubBytes s.registered zero16)
  have hmem := hfield State.hostMem fun _ => rfl
  have hout := (hfield State.outBase fun _ => rfl).trans hbase
  refine ⟨u, ?_, hresp, hinv.responseValid.2 hresp, hfield State.rsp fun _ => rfl,
    hinv.datapathClear_respond hresp, (hfield State.src fun _ => rfl).trans hsrc,
    (hfield State.count fun _ => rfl).trans hcount, ?_, fun j hj => ?_, fun x hx => ?_⟩
  · rw [show 4 + 3 * s.count.toNat + n.toNat = 3 + 3 * s.count.toNat + n.toNat + 1 by omega, run_succ hs]
    exact hrun
  · rw [hout, State.worldNext_outBase, if_pos hf]
  · rw [hmem, hout]
    exact (s.worldNext e).afterGet_read (hn.trans hmax) _ hj
  · rw [hout] at hx
    rw [hmem]
    exact (s.worldNext e).afterGet_read_other (hn.trans hmax) _ hx

end Sys2Proof.Machine
end

section
/-! The noise sources: the bytes that an answer defines, the port without a provider, and the measurement of the
timer-jitter provider from the request to the answer (R162 to R168). -/

namespace Sys2Proof.Machine

/-! ### The bytes of an answer (R162) -/

theorem portData_getElem (st : Byte) (sample free : Bytes16) {i : Nat} (h : i < 16) :
    (portData st sample free)[i] = if i < definedCount st then sample[i] else free[i] := by
  simp [portData]

theorem definedCount_of_count {st : Byte} (h0 : 0 ≤ s8 st) (h16 : s8 st ≤ 16) : definedCount st = st.toNat :=
  if_pos ⟨h0, h16⟩

theorem definedCount_of_error {st : Byte} (h : s8 st < 0 ∨ 16 < s8 st) : definedCount st = 0 :=
  if_neg (by omega)

/-- Settles O33: the status gives the number of defined bytes, which is where the two sources of a byte meet. -/
theorem definedBytesOfAnswer : Obligations.DefinedBytesOfAnswer := by
  intro st sample free i h
  rw [portData_getElem st sample free h]
  refine ⟨fun h0 h16 hi => if_pos ?_, fun h0 h16 hi => if_neg ?_, fun herr => if_neg ?_⟩
  · rwa [definedCount_of_count h0 h16]
  · rw [definedCount_of_count h0 h16]
    exact Nat.not_lt.2 hi
  · rw [definedCount_of_error herr]
    exact Nat.not_lt_zero i

/-! ### The port without a provider (R163) -/

theorem State.sampleAnswer_of_unconnected {s : State} (i : Inputs) (h : s.cfg.numSourcePorts ≤ s.roundPort.toNat) :
    s.sampleAnswer i = some ⟨0xFF, zero16⟩ := if_neg (by simpa [State.connected] using h)

/-- Settles O32: status -1 is not 16, so the policy alone decides what becomes of the zero bytes. -/
theorem unconnectedPortAnswersAtOnce : Obligations.UnconnectedPortAnswersAtOnce := by
  intro s i hf hp
  have hans := State.sampleAnswer_of_unconnected i hp
  have hstatus : s8 0xFF ≠ 16 := by decide
  rw [stepBusy_getSample i hf]
  split
  next habort => exact stepGetSample_of_abort hans (State.abortsOn_eq_true_iff.2 ⟨habort, hstatus⟩)
  next habort =>
    refine stepGetSample_of_take hans (State.abortsOn_eq_false_iff.2 (.inl ?_))
    cases hpolicy : s.cfg.srcFailPolicy with
    | abort => exact absurd hpolicy habort
    | ignore => rfl

/-! ### A measurement of the timer-jitter provider (R165 to R168) -/

@[simp] theorem jitterWake_mode (j : TimerJitter) (t : Nat) : (jitterWake j t).mode = j.mode := by
  unfold jitterWake
  split <;> rfl

@[simp] theorem jitterWake_remaining (j : TimerJitter) (t : Nat) : (jitterWake j t).remaining = j.remaining - 1 := by
  unfold jitterWake
  split
  next h => rw [h]
  next => rfl

theorem jitterWakes_mode (l : List Nat) (j : TimerJitter) : (l.foldl jitterWake j).mode = j.mode := by
  induction l generalizing j with
  | nil => rfl
  | cons t l ih => rw [List.foldl_cons, ih, jitterWake_mode]

theorem jitterWakes_remaining (l : List Nat) (j : TimerJitter) :
    (l.foldl jitterWake j).remaining = j.remaining - l.length := by
  induction l generalizing j with
  | nil => rfl
  | cons t l ih => rw [List.foldl_cons, ih, jitterWake_remaining, List.length_cons, Nat.sub_sub, Nat.add_comm 1]

theorem jitterCaller_of_held {j : TimerJitter} {req : Option Byte} (h : j.caller = req) : jitterCaller req j = j := by
  subst h
  simp [jitterCaller]

/-- The provider is Sampling for the request of port `p`, with `n` measurements to come. -/
def TimerJitter.Awaits (j : TimerJitter) (p : Byte) (n : Nat) : Prop :=
  j.mode = .sampling ∧ j.remaining = n ∧ j.caller = some p

theorem jitterStart_awaits (p : Byte) : (jitterStart p).Awaits p 32 := ⟨rfl, rfl, rfl⟩

section
variable {j : TimerJitter} {p : Byte} {n : Nat} {d : JitterDraw}

theorem TimerJitter.Awaits.finished_iff (h : j.Awaits p n) : j.finished = true ↔ n = 0 := by
  obtain ⟨hmode, hrem, -⟩ := h
  simp [TimerJitter.finished, hmode, hrem]

/-- Each wake up to the next edge is one measurement, as long as the request stands. -/
theorem TimerJitter.Awaits.sampling (h : j.Awaits p n) :
    (jitterSampling (some p) d j).Awaits p (n - d.wakes.length) := by
  obtain ⟨hmode, hrem, hcaller⟩ := h
  unfold jitterSampling
  rw [jitterCaller_of_held hcaller]
  exact ⟨(jitterWakes_mode _ j).trans hmode, hrem ▸ jitterWakes_remaining _ j, (jitterWakes_caller _ j).trans hcaller⟩

theorem jitterRun_of_sampling {req : Option Byte} (h : j.mode = .sampling) :
    jitterRun req d j = jitterSampling req d j := by
  have htake : jitterTake req j = j := by simp [jitterTake, h]
  simp only [jitterRun, htake, h]

/-- From Idle, an edge with a request is one of that request's measurement, just started. -/
theorem jitterRun_of_idle (h : j.mode = .idle) : jitterRun (some p) d j = jitterRun (some p) d (jitterStart p) := by
  have htake : jitterTake (some p) j = jitterTake (some p) (jitterStart p) := by simp [jitterTake, h, jitterStart]
  simp only [jitterRun, htake]

theorem jitterNext_of_idle (h : j.mode = .idle) : jitterNext (some p) d j = jitterNext (some p) d (jitterStart p) := by
  simp only [jitterNext, jitterRun_of_idle h]

theorem TimerJitter.Awaits.run (h : j.Awaits p n) : (jitterRun (some p) d j).Awaits p (n - d.wakes.length) :=
  jitterRun_of_sampling h.1 ▸ h.sampling

/-- While wakes are missing, an edge only counts those that have come. -/
theorem TimerJitter.Awaits.next (h : j.Awaits p n) (hd : d.wakes.length < n) :
    (jitterNext (some p) d j).Awaits p (n - d.wakes.length) := by
  have hnot : ¬(jitterRun (some p) d j).finished = true := fun hfin => by
    have := h.run.finished_iff.1 hfin
    omega
  rw [jitterNext, if_neg hnot]
  exact h.run

theorem TimerJitter.Awaits.edges {ds : List JitterDraw} (h : j.Awaits p n)
    (hd : (ds.map fun d => d.wakes.length).sum < n) :
    (ds.foldl (fun j d => jitterNext (some p) d j) j).Awaits p (n - (ds.map fun d => d.wakes.length).sum) := by
  induction ds generalizing j n with
  | nil => exact h
  | cons d ds ih =>
    rw [List.map_cons, List.sum_cons] at hd ⊢
    rw [← Nat.sub_sub]
    exact ih (h.next (by omega)) (by omega)

/-- The caller is answered at the edge at which the last wake has come. -/
theorem TimerJitter.Awaits.answers (h : j.Awaits p n) :
    jitterAnswers (some p) d j = if n ≤ d.wakes.length then some p else none := by
  obtain ⟨-, -, hcaller⟩ := h.run (d := d)
  simp only [jitterAnswers, h.run.finished_iff, hcaller, Nat.sub_eq_zero_iff_le]

end

/-- Settles O53: the first edge is that of a measurement just started, each wake counts once, and the answer falls
where none is left to come. -/
theorem jitterAnswersAtThirtySecondWake : Obligations.JitterAnswersAtThirtySecondWake := by
  intro p j₀ j d ds hidle hj hwakes
  have hstart : j = (d :: ds).foldl (fun j d => jitterNext (some p) d j) (jitterStart p) := by
    rw [hj, List.foldl_cons, List.foldl_cons, jitterNext_of_idle hidle]
  have hawaits : j.Awaits p (32 - ((d :: ds).map fun d => d.wakes.length).sum) :=
    hstart ▸ (jitterStart_awaits p).edges hwakes
  have ⟨hmode, hrem, hcaller⟩ := hawaits
  refine ⟨hmode, hrem, hcaller, fun e => ?_⟩
  rw [hawaits.answers]
  simp only [Nat.sub_le_iff_le_add']

end Sys2Proof.Machine
end

section
/-! The block cipher (spec/43_block_cipher.md): what the unit answers to ENCRYPT, the check vector of the reference
cipher, and that `E_K` is a permutation (R181 to R190). -/

namespace Sys2Proof.Machine

/-! ### The answer to ENCRYPT (R181) -/

/-- Settles O55: the invariant says that the unit holds `KEY`. A hardware reset at the edge does not reach the unit
(R233), so the edge without it has the same answer. -/
theorem successfulEncryptIsCipher : Obligations.SuccessfulEncryptIsCipher := by
  intro s e h hf hans hok
  obtain ⟨-, -, -, hkey⟩ := h.phase_round (.inr (.inr hf))
  have hserves : edgeServes { e with rst := false } := ⟨rfl, hans, hok⟩
  have hcip : (s.inputsAt e).cip = some ⟨true, s.cipherData e.cipher⟩ :=
    State.cipherAnswer_of_serves (e := { e with rst := false }) hserves
  have hdata : s.cipherData e.cipher = cipherPerm s.cfg.cipher keyRom s.acc :=
    State.cipherData_of_getEnc (e := { e with rst := false }) hserves hf hkey
  rw [hcip, hdata]

/-! ### The reference cipher (R190) -/

/-- Settles O57, by evaluating the ten rounds. -/
theorem referenceCipherVector : Obligations.ReferenceCipherVector := by
  unfold Obligations.ReferenceCipherVector
  decide +kernel

/-! ### Addition of bytes and of blocks -/

theorem byte_xor_left_comm (a b c : Byte) : a ^^^ (b ^^^ c) = b ^^^ (a ^^^ c) := by ac_rfl

theorem xor16_comm (a b : Bytes16) : xor16 a b = xor16 b a := by
  refine Vector.ext fun i hi => ?_
  rw [xor16_getElem, xor16_getElem, BitVec.xor_comm]

theorem xor16_right_injective (a : Bytes16) : Function.Injective (xor16 a) := by
  intro b c h
  refine Vector.ext fun i hi => ?_
  have hbyte : (xor16 a b)[i] = (xor16 a c)[i] := by rw [h]
  rwa [xor16_getElem, xor16_getElem, BitVec.xor_right_inj] at hbyte

theorem xor16_left_injective (b : Bytes16) : Function.Injective fun a => xor16 a b := by
  simpa only [xor16_comm _ b] using xor16_right_injective b

/-! ### The elements of the state array (R187) -/

/-- Row `r`, column `c` of the state array. -/
def aesElement (s : Bytes16) (r c : Fin 4) : Byte := byteAt s (r.val + 4 * c.val)

theorem aesElement_eq_getElem (s : Bytes16) (r c : Fin 4) :
    aesElement s r c = s[r.val + 4 * c.val]'(by omega) := dif_pos _

theorem bytes16_ext_aesElement {s t : Bytes16} (h : ∀ r c, aesElement s r c = aesElement t r c) : s = t := by
  refine Vector.ext fun i hi => ?_
  have hrc := h ⟨i % 4, by omega⟩ ⟨i / 4, by omega⟩
  simpa only [aesElement_eq_getElem, Nat.mod_add_div] using hrc

/-- The element of a block whose bytes are given by row and column. -/
theorem aesElement_ofFn (f : Nat → Nat → Byte) (r c : Fin 4) :
    aesElement (Vector.ofFn fun i => f (i.val % 4) (i.val / 4)) r c = f r.val c.val := by
  rw [aesElement_eq_getElem, Vector.getElem_ofFn, Nat.add_mul_mod_self_left, Nat.mod_eq_of_lt r.isLt,
    Nat.add_mul_div_left _ _ (by decide), Nat.div_eq_of_lt r.isLt, Nat.zero_add]

theorem aesElement_aesSubBytes (s : Bytes16) (r c : Fin 4) :
    aesElement (aesSubBytes s) r c = aesSbox (aesElement s r c) := by
  rw [aesElement_eq_getElem, aesElement_eq_getElem, aesSubBytes, Vector.getElem_ofFn]
  rfl

theorem aesElement_aesShiftRows (s : Bytes16) (r c : Fin 4) :
    aesElement (aesShiftRows s) r c = aesElement s r (c + r) :=
  aesElement_ofFn (fun r c => byteAt s (r + 4 * ((c + r) % 4))) r c

/-- A byte of a column after MixColumns, from the column's bytes beginning with its own row. -/
def aesMixByte (w x y z : Byte) : Byte := aesDouble w ^^^ aesTriple x ^^^ y ^^^ z

theorem aesElement_aesMixColumns (s : Bytes16) (r c : Fin 4) :
    aesElement (aesMixColumns s) r c =
      aesMixByte (aesElement s r c) (aesElement s (r + 1) c) (aesElement s (r + 2) c) (aesElement s (r + 3) c) := by
  have hrow : (r.val + 0) % 4 = r.val := Nat.mod_eq_of_lt r.isLt
  have hmix := aesElement_ofFn (fun r c => aesMixByte (byteAt s ((r + 0) % 4 + 4 * c)) (byteAt s ((r + 1) % 4 + 4 * c))
    (byteAt s ((r + 2) % 4 + 4 * c)) (byteAt s ((r + 3) % 4 + 4 * c))) r c
  rw [hrow] at hmix
  exact hmix

/-! ### Each step of a round can be undone (R186) -/

/-- The inverse of `SBOX`, laid out as `aesSboxRows` is. -/
def aesInvSboxRows : List (List Byte) :=
  [bytesOfNat 0x52096ad53036a538bf40a39e81f3d7fb, bytesOfNat 0x7ce339829b2fff87348e4344c4dee9cb,
   bytesOfNat 0x547b9432a6c2233dee4c950b42fac34e, bytesOfNat 0x082ea16628d924b2765ba2496d8bd125,
   bytesOfNat 0x72f8f66486689816d4a45ccc5d65b692, bytesOfNat 0x6c704850fdedb9da5e154657a78d9d84,
   bytesOfNat 0x90d8ab008cbcd30af7e45805b8b34506, bytesOfNat 0xd02c1e8fca3f0f02c1afbd0301138a6b,
   bytesOfNat 0x3a9111414f67dcea97f2cfcef0b4e673, bytesOfNat 0x96ac7422e7ad3585e2f937e81c75df6e,
   bytesOfNat 0x47f11a711d29c5896fb7620eaa18be1b, bytesOfNat 0xfc563e4bc6d279209adbc0fe78cd5af4,
   bytesOfNat 0x1fdda8338807c731b11210592780ec5f, bytesOfNat 0x60517fa919b54a0d2de57a9f93c99cef,
   bytesOfNat 0xa0e03b4dae2af5b0c8ebbb3c83539961, bytesOfNat 0x172b047eba77d626e169146355210c7d]

def aesInvSbox (y : Byte) : Byte := (aesInvSboxRows.getD (y.toNat / 16) []).getD (y.toNat % 16) 0

theorem aesInvSbox_aesSbox : Function.LeftInverse aesInvSbox aesSbox := by
  unfold Function.LeftInverse
  decide +kernel

theorem aesSubBytes_injective : Function.Injective aesSubBytes := by
  intro s t h
  refine bytes16_ext_aesElement fun r c => aesInvSbox_aesSbox.injective ?_
  rw [← aesElement_aesSubBytes, h, aesElement_aesSubBytes]

theorem aesShiftRows_injective : Function.Injective aesShiftRows := by
  intro s t h
  refine bytes16_ext_aesElement fun r c => ?_
  have hrc : aesElement (aesShiftRows s) r (c - r) = aesElement (aesShiftRows t) r (c - r) := by rw [h]
  rwa [aesElement_aesShiftRows, aesElement_aesShiftRows, sub_add_cancel] at hrc

theorem aesDouble_xor (a b : Byte) : aesDouble (a ^^^ b) = aesDouble a ^^^ aesDouble b := by
  unfold aesDouble
  rw [BitVec.msb_xor, BitVec.shiftLeft_xor_distrib]
  cases a.msb <;> cases b.msb <;> simp [BitVec.xor_assoc, BitVec.xor_comm, byte_xor_left_comm]

/-- The odd rows of a column cancel in the square of the matrix of MixColumns. -/
theorem aesMixByte_aesMixByte (w x y z : Byte) :
    aesMixByte (aesMixByte w x y z) (aesMixByte x y z w) (aesMixByte y z w x) (aesMixByte z w x y) =
      aesDouble (aesDouble (w ^^^ y)) ^^^ w := by
  simp only [aesMixByte, aesTriple, aesDouble_xor]
  simp [BitVec.xor_assoc, BitVec.xor_comm, byte_xor_left_comm]

theorem aesElement_aesMixColumns_aesMixColumns (s : Bytes16) (r c : Fin 4) :
    aesElement (aesMixColumns (aesMixColumns s)) r c =
      aesDouble (aesDouble (aesElement s r c ^^^ aesElement s (r + 2) c)) ^^^ aesElement s r c := by
  simp only [aesElement_aesMixColumns, add_assoc, Fin.reduceAdd, add_zero, aesMixByte_aesMixByte]

/-- The matrix of MixColumns has order 4. -/
theorem aesMixColumns_aesMixColumns_involutive : Function.Involutive (aesMixColumns ∘ aesMixColumns) := by
  intro s
  refine bytes16_ext_aesElement fun r c => ?_
  simp only [Function.comp_apply, aesElement_aesMixColumns_aesMixColumns, add_assoc, Fin.reduceAdd, add_zero]
  generalize aesElement s r c = w, aesElement s (r + 2) c = y
  have hsum : (aesDouble (aesDouble (w ^^^ y)) ^^^ w) ^^^ (aesDouble (aesDouble (y ^^^ w)) ^^^ y) = w ^^^ y := by
    rw [BitVec.xor_comm y w, BitVec.xor_assoc, byte_xor_left_comm w, xor_cancel_left]
  rw [hsum, xor_cancel_left]

theorem aesMixColumns_injective : Function.Injective aesMixColumns :=
  aesMixColumns_aesMixColumns_involutive.injective.of_comp

/-! ### `E_K` is a permutation (R185) -/

theorem aesRound_injective (k : Bytes16) : Function.Injective (aesRound k) :=
  (xor16_left_injective k).comp
    (aesMixColumns_injective.comp (aesShiftRows_injective.comp aesSubBytes_injective))

theorem aesRounds_injective (k : Bytes16) (j : Nat) : Function.Injective fun b => aesRounds k b j := by
  induction j with
  | zero => exact xor16_left_injective k
  | succ j ih => exact (aesRound_injective _).comp ih

theorem aesEncrypt_injective (k : Bytes16) : Function.Injective (aesEncrypt k) :=
  (xor16_left_injective (aesRoundKey k 10)).comp
    (aesShiftRows_injective.comp (aesSubBytes_injective.comp (aesRounds_injective k 9)))

theorem bytes16_finite : Finite Bytes16 :=
  .of_injective aesElement fun _ _ h => bytes16_ext_aesElement fun r c => congrFun₂ h r c

/-- An injective map of the finitely many blocks is a permutation; any other cipher is one by its type. -/
theorem cipherPerm_bijective (c : CipherSel) (k : Bytes16) : Function.Bijective (cipherPerm c k) := by
  have := bytes16_finite
  cases c with
  | aes128 => exact Finite.injective_iff_bijective.1 (aesEncrypt_injective k)
  | other n => exact (Config.otherCipher n k).bijective

/-- Settles O56: the round's one encryption and its addition to the cleared accumulator can both be undone. -/
theorem cipherIsInvertible : Obligations.CipherIsInvertible := fun c k =>
  ⟨cipherPerm_bijective c k, fun _ _ _ h =>
    xor16_right_injective zero16 ((cipherPerm_bijective c keyRom).injective h)⟩

end Sys2Proof.Machine
end

section
/-! The error kinds, the illegal command word, and that no step stops (spec/60_exceptions.md R200, R201, R208). -/

namespace Sys2Proof.Machine

/-! ### The error kinds (R201) -/

/-- Settles O8: the CODE and the CAUSE of each kind, put together. -/
theorem errorKindWords : Obligations.ErrorKindWords := ⟨rfl, rfl, rfl, rfl, rfl, rfl, rfl⟩

/-- A failure before the datapath is touched writes the response and `FSM` only (R210). -/
theorem State.respondError_eq (s : State) (k : ErrorKind) :
    s.respondError k = { s with rsp := errorWord k, rspv := true, fsm := .respond } := rfl

/-! ### The illegal command word (R208) -/

theorem acceptCommand_of_illegal {w : Word} {why : IllegalReason} (hd : decode w = .illegal why) (s : State) :
    acceptCommand (some w) s = .next (s.respondError .illegalCmd) := by
  simp only [acceptCommand, hd]

/-- Settles O13: the word is not dispatched, and the answer is the word of ILLEGAL_CMD. -/
theorem illegalCommandAnsweredOnly : Obligations.IllegalCommandAnsweredOnly := by
  intro s w why hf hr hw hd
  obtain ⟨-, -, -, -, -, -, hword⟩ := errorKindWords
  rw [step_of_idle hf hr, hw, acceptCommand_of_illegal hd, State.respondError_eq, hword]

/-! ### Every step has a next state (R200) -/

theorem exec_hasNext (c : Instr) (s : State) : ∃ t, exec c s = .next t := by
  cases c with
  | init => exact ⟨_, initAccepted s⟩
  | add p =>
    cases hr : s.hasRoom with
    | true => exact ⟨_, exec_add_of_room p hr⟩
    | false => exact ⟨_, exec_add_of_full p hr⟩
  | reset => exact ⟨_, exec_reset s⟩
  | get n =>
    cases hc : s.getCheck n with
    | some k => exact ⟨_, exec_get_of_check hc⟩
    | none =>
      obtain ⟨hn, hcount⟩ := (s.getCheck_none_iff n).1 hc
      exact ⟨_, exec_get_of_pass hn hcount⟩

theorem acceptCommand_hasNext (cmd : Option Word) (s : State) : ∃ t, acceptCommand cmd s = .next t := by
  cases cmd with
  | none => exact ⟨s, rfl⟩
  | some w =>
    cases hd : decode w with
    | command c => exact acceptCommand_of_command hd s ▸ exec_hasNext c s
    | illegal why => exact ⟨_, acceptCommand_of_illegal hd s⟩

/-- Settles O18: a hardware reset, the acceptance in `IDLE` and a transition of the busy block each have one. -/
theorem everyStepHasNextState : Obligations.EveryStepHasNextState := by
  intro s
  cases hr : s.nextEdge.rst with
  | true => exact ⟨_, (step_eq s).trans (clockEdge_of_rst hr)⟩
  | false =>
    by_cases hf : s.fsm = .idle
    · exact step_of_idle hf hr ▸ acceptCommand_hasNext _ _
    · exact ⟨_, step_of_busy hf hr⟩

end Sys2Proof.Machine
end

section
/-! Reset and hazards (spec/70_reset_and_hazards.md): hardware reset in any state, the measurement it abandons, and
a command at a busy block. -/

namespace Sys2Proof.Machine

/-! ### Hardware reset (R230 to R234) -/

theorem step_of_rst {s : State} (hr : s.nextEdge.rst = true) : step s = .next (s.worldNext s.nextEdge).hwReset :=
  clockEdge_of_rst (s := s.worldNext s.nextEdge) (i := s.inputsAt s.nextEdge) hr

theorem State.hwReset_registersReset (s : State) : s.hwReset.RegistersReset :=
  ⟨State.srcAt_of_replicate s.hwReset_src, rfl, rfl, ⟨rfl, rfl, rfl, rfl, rfl⟩, rfl, rfl⟩

/-- At a hardware reset only the draw says whether the measurement has ended (I23). -/
theorem State.jitterNext_of_rst (s : State) {e : Edge} (hr : e.rst = true) :
    s.jitterNext e = if e.jitter.endsAtReset then jitterRelease (Machine.jitterNext s.jitterReq e.jitter s.jitter)
      else Machine.jitterNext s.jitterReq e.jitter s.jitter := by
  simp only [State.jitterNext, hr, Bool.true_and]

/-- Settles O43: the registers by the reset, the agents by the edge of the outside world, which it does not reach. -/
theorem hardwareResetAtAnyTime : Obligations.HardwareResetAtAnyTime := fun s hr =>
  ⟨_, step_of_rst hr, State.hwReset_registersReset _, List.length_replicate, rfl, fun _ => rfl,
    s.jitterNext_of_rst hr, rfl⟩

theorem State.mem_bufferAddrs {s : State} {j : Nat} (hj : j < s.cfg.maxBytesRequest) :
    s.outBase + j ∈ s.bufferAddrs :=
  List.mem_map_of_mem (List.mem_range.2 hj)

/-- A reset in `GET_OUT` leaves no byte of the buffer known (R232, I22). -/
theorem State.hwReset_hostByte {s : State} {a : Nat} (hf : s.fsm = .getOut) (ha : a ∈ s.bufferAddrs) :
    s.hwReset.hostByte a = none :=
  if_pos (by rw [State.hwReset_anyBytes, if_pos hf]; exact List.mem_append_left _ ha)

/-- The base stays while the block is busy (R51). -/
theorem State.worldNext_outBase_of_busy {s : State} (e : Edge) (hf : s.fsm ≠ .idle) :
    (s.worldNext e).outBase = s.outBase := by
  rw [State.worldNext_outBase, if_neg hf]

/-- Settles O44: the buffer of the reset is the one of the GET, since its base has not moved. -/
theorem resetInGetOutLeavesAnyValue : Obligations.ResetInGetOutLeavesAnyValue := by
  intro s t hr hf hs j hj
  obtain rfl := Host.Outcome.next.inj ((step_of_rst hr).symm.trans hs)
  have hbase : (s.worldNext s.nextEdge).outBase = s.outBase :=
    State.worldNext_outBase_of_busy s.nextEdge (by simp [hf])
  have hmem : (s.worldNext s.nextEdge).outBase + j ∈ (s.worldNext s.nextEdge).bufferAddrs := State.mem_bufferAddrs hj
  exact hbase ▸ State.hwReset_hostByte hf hmem

/-! ### The abandoned measurement (R232, R233) -/

theorem jitterCaller_of_dropped {req : Option Byte} {j : TimerJitter}
    (h : j.caller = none ∨ ∃ p, j.caller = some p ∧ req ≠ some p) : (jitterCaller req j).caller = none := by
  simp only [jitterCaller]
  rcases h with hnone | ⟨p, hp, hreq⟩
  · rw [hnone, ite_self]
  · rw [hp, if_neg hreq]

/-- While Sampling, an edge keeps the caller or loses it to a dropped request. -/
theorem jitterRun_caller_of_sampling {req : Option Byte} {d : JitterDraw} {j : TimerJitter} (h : j.mode = .sampling) :
    (jitterRun req d j).caller = (jitterCaller req j).caller := by
  rw [jitterRun_of_sampling h]
  exact jitterWakes_caller d.wakes (jitterCaller req j)

/-- Settles O54: with the caller lost there is none to answer, whether the measurement ends at this edge or not. -/
theorem abandonedMeasurementNotAnswered : Obligations.AbandonedMeasurementNotAnswered := by
  intro j req d hmode hdropped
  have hlost : (jitterRun req d j).caller = none :=
    (jitterRun_caller_of_sampling hmode).trans (jitterCaller_of_dropped hdropped)
  unfold jitterAnswers jitterNext
  split
  · exact ⟨hlost, rfl⟩
  · exact ⟨rfl, hlost⟩

/-! ### The busy block (R58, R242, R246) -/

/-- Settles O15: the edge of a busy block. -/
theorem busyStepIsOneTransition : Obligations.BusyStepIsOneTransition := fun _ => step_of_busy

/-- A busy block does not see the command port. -/
theorem clockEdge_cmd_of_busy {s : State} (i : Inputs) (c : Option Word) (hf : s.fsm ≠ .idle) :
    clockEdge { i with cmd := c } s = clockEdge i s := by
  have hbusy : stepBusy { i with cmd := c } s = stepBusy i s :=
    stepBusy_congr rfl (fun _ _ => rfl) fun _ => rfl
  simp only [clockEdge, if_neg hf, hbusy]

/-- Settles O17: neither the agents nor the outside world see the command port, and the busy block does not. -/
theorem commandWhileBusyNotTaken : Obligations.CommandWhileBusyNotTaken := fun s e c hf =>
  clockEdge_cmd_of_busy (s := s.worldNext e) (s.inputsAt e) c hf

end Sys2Proof.Machine
end

section
/-! A word laid on the command port (assumption log entry 3). -/

namespace Sys2Proof.Machine

@[simp] theorem State.withFetchWord_fsm (s : State) (nbits w : Nat) : (s.withFetchWord nbits w).fsm = .idle := rfl

/-- The host presents the word, by its bits in the opcode table, at the very next edge. -/
theorem State.withFetchWord_nextEdge (s : State) (w : Word) :
    (s.withFetchWord 16 w.toNat).nextEdge = commandEdge w :=
  (State.nextEdge_of_script rfl).trans (congrArg commandEdge (tableWord_toNat w))

/-- Settles O16: at the edge that presents its word, an idle block takes the command. -/
theorem fetchWordIsRunNext : Obligations.FetchWordIsRunNext := by
  intro s i
  have hedge := s.withFetchWord_nextEdge (encode i)
  have hrun := stepRunsDecodedCommand (s.withFetchWord 16 (encode i).toNat) (encode i) i
    (s.withFetchWord_fsm 16 _) (congrArg Edge.rst hedge) (congrArg Edge.cmd hedge) (decode_encode i)
  rwa [hedge] at hrun

end Sys2Proof.Machine
end
